-- ==== Sys2Proof/Word.lean ====
section
/-! DEFINITION. The word types of the machine (00_scope.md R6; widths of R4). Nothing on this hardware is signed. -/

namespace Sys2Proof

/-- A memory byte or the contents of a V register (R4 `REG_W`, 20_memory.md R40). -/
abbrev Byte := BitVec 8

/-- A 16-bit value: an opcode word, `I`, `pc`, a stack entry (R4 `I_W`, `PC_W`). -/
abbrev Word := BitVec 16

/-- The 12-bit immediate `NNN` (30_encoding.md R62). -/
abbrev Addr12 := BitVec 12

/-- The number of a general register, the fields `X` and `Y` (30_encoding.md R62, 10_state.md R11). -/
abbrev Reg := Fin 16

/-- A 4-bit count or an ignored nibble, the field `N` (30_encoding.md R62, R64, R70). -/
abbrev Nibble := Fin 16

end Sys2Proof
end

