-- ==== Sys2Proof/Syntax.lean ====
section
/-! DEFINITION. The instructions of spec/opcode_table.json, one constructor a row (30_encoding.md R73), in the table's
order. Fields are those of R62; every bit of a word that is not fixed by its row is a field of its constructor, the
ignored nibble of groups 5 and 9 (R70) and the ignored Y of the shifts among them (notes/assumptions/16.md). -/

namespace Sys2Proof

inductive Instr where
  /-- 00E0, clear the display (43_display_blit.md R149). -/
  | cls
  /-- 00EE, return from subroutine (40_control_flow.md R80). -/
  | ret
  /-- 1NNN, jump (R81). -/
  | jump (nnn : Addr12)
  /-- 2NNN, call (R82). -/
  | call (nnn : Addr12)
  /-- 3XNN, skip if VX = NN (R84). -/
  | skipEqImm (x : Reg) (nn : Byte)
  /-- 4XNN, skip if VX differs from NN (R85). -/
  | skipNeImm (x : Reg) (nn : Byte)
  /-- 5XYn, skip if VX = VY; n is ignored (R86, R70). -/
  | skipEqReg (x y : Reg) (n : Nibble)
  /-- 6XNN, load immediate (41_alu.md R100). -/
  | setImm (x : Reg) (nn : Byte)
  /-- 7XNN, add immediate (R101). -/
  | addImm (x : Reg) (nn : Byte)
  /-- 8XY0, copy (R102). -/
  | copy (x y : Reg)
  /-- 8XY1, or (R103). -/
  | or (x y : Reg)
  /-- 8XY2, and (R104). -/
  | and (x y : Reg)
  /-- 8XY3, exclusive or (R105). -/
  | xor (x y : Reg)
  /-- 8XY4, add with carry out (R106). -/
  | add (x y : Reg)
  /-- 8XY5, VX - VY (R107). -/
  | sub (x y : Reg)
  /-- 8XY6, shift VX right; Y is ignored (R108). -/
  | shr (x y : Reg)
  /-- 8XY7, VY - VX (R109). -/
  | subn (x y : Reg)
  /-- 8XYE, shift VX left; Y is ignored (R110). -/
  | shl (x y : Reg)
  /-- 9XYn, skip if VX differs from VY; n is ignored (40_control_flow.md R87, R70). -/
  | skipNeReg (x y : Reg) (n : Nibble)
  /-- ANNN, load I (42_index_memory.md R120). -/
  | setIndex (nnn : Addr12)
  /-- BNNN, jump to NNN + V0 (40_control_flow.md R83). -/
  | jumpV0 (nnn : Addr12)
  /-- CXNN, random byte and NN (41_alu.md R111). -/
  | random (x : Reg) (nn : Byte)
  /-- DXYN, draw a sprite of N rows (43_display_blit.md R150). -/
  | draw (x y : Reg) (n : Nibble)
  /-- EX9E, skip if key VX is down (44_timers_keys.md R163). -/
  | skipKey (x : Reg)
  /-- EXA1, skip if key VX is not down (R164). -/
  | skipNoKey (x : Reg)
  /-- FX07, VX <- DT (R160). -/
  | readDelay (x : Reg)
  /-- FX0A, wait for a key release (R165). -/
  | waitKey (x : Reg)
  /-- FX15, DT <- VX (R161). -/
  | setDelay (x : Reg)
  /-- FX18, ST <- VX (R162). -/
  | setSound (x : Reg)
  /-- FX1E, I <- I + VX (42_index_memory.md R121). -/
  | addIndex (x : Reg)
  /-- FX29, I <- FONT_BASE + VX (R122). -/
  | fontIndex (x : Reg)
  /-- FX33, decimal digits of VX to memory (R123). -/
  | bcd (x : Reg)
  /-- FX55, store V0..VX (R124). -/
  | store (x : Reg)
  /-- FX65, load V0..VX (R125). -/
  | load (x : Reg)
  /-- Any word no other row matches (30_encoding.md R71, 40_control_flow.md R88). -/
  | unmatched (w : Word)
deriving DecidableEq, Repr

/-- The row of spec/opcode_table.json an instruction belongs to (the pattern is the mnemonic, R74). -/
def Instr.mnemonic : Instr → String
  | .cls => "00E0"
  | .ret => "00EE"
  | .jump _ => "1NNN"
  | .call _ => "2NNN"
  | .skipEqImm _ _ => "3XNN"
  | .skipNeImm _ _ => "4XNN"
  | .skipEqReg _ _ _ => "5XY0"
  | .setImm _ _ => "6XNN"
  | .addImm _ _ => "7XNN"
  | .copy _ _ => "8XY0"
  | .or _ _ => "8XY1"
  | .and _ _ => "8XY2"
  | .xor _ _ => "8XY3"
  | .add _ _ => "8XY4"
  | .sub _ _ => "8XY5"
  | .shr _ _ => "8XY6"
  | .subn _ _ => "8XY7"
  | .shl _ _ => "8XYE"
  | .skipNeReg _ _ _ => "9XY0"
  | .setIndex _ => "ANNN"
  | .jumpV0 _ => "BNNN"
  | .random _ _ => "CXNN"
  | .draw _ _ _ => "DXYN"
  | .skipKey _ => "EX9E"
  | .skipNoKey _ => "EXA1"
  | .readDelay _ => "FX07"
  | .waitKey _ => "FX0A"
  | .setDelay _ => "FX15"
  | .setSound _ => "FX18"
  | .addIndex _ => "FX1E"
  | .fontIndex _ => "FX29"
  | .bcd _ => "FX33"
  | .store _ => "FX55"
  | .load _ => "FX65"
  | .unmatched _ => "UNMATCHED"

end Sys2Proof
end

