-- ==== Sys2Proof/WellFormed.lean ====
section
/-! DEFINITION. Which instruction terms stand for a word. Every field of a matched instruction ranges over its whole
type (R64: all register numbers and immediates are legal); only the word an `unmatched` term carries is checked,
against the unmatched space as 30_encoding.md R71 lists it. -/

namespace Sys2Proof

/-- The unmatched space of 30_encoding.md R71, clauses (a) to (d), on the word as a number. -/
def unmatchedWord (w : Word) : Bool :=
  let g := w.toNat / 0x1000
  let n := w.toNat % 0x10
  let nn := w.toNat % 0x100
  (g == 0 && w.toNat != 0x00E0 && w.toNat != 0x00EE) ||
  (g == 8 && [0x8, 0x9, 0xA, 0xB, 0xC, 0xD, 0xF].contains n) ||
  (g == 0xE && !([0x9E, 0xA1].contains nn)) ||
  (g == 0xF && !([0x07, 0x0A, 0x15, 0x18, 0x1E, 0x29, 0x33, 0x55, 0x65].contains nn))

/-- An instruction term is well formed. -/
def Instr.wf : Instr → Bool
  | .unmatched w => unmatchedWord w
  | .cls | .ret | .jump _ | .call _ | .skipEqImm _ _ | .skipNeImm _ _ | .skipEqReg _ _ _ | .setImm _ _ | .addImm _ _
  | .copy _ _ | .or _ _ | .and _ _ | .xor _ _ | .add _ _ | .sub _ _ | .shr _ _ | .subn _ _ | .shl _ _
  | .skipNeReg _ _ _ | .setIndex _ | .jumpV0 _ | .random _ _ | .draw _ _ _ | .skipKey _ | .skipNoKey _
  | .readDelay _ | .waitKey _ | .setDelay _ | .setSound _ | .addIndex _ | .fontIndex _ | .bcd _ | .store _
  | .load _ => true

end Sys2Proof
end

