-- ==== Sys2Proof/Decode.lean ====
section
/-! DEFINITION. The decoder, total on every 16-bit word (30_encoding.md R65 to R72), the encoder, written from the same
formats (R63), and the match and mask table of R73. Bytes are big-endian (R46). -/

namespace Sys2Proof

/-! ### Fields (R62) -/

/-- `g`, op[15:12]. -/
def fieldG (op : Word) : Fin 16 := (op.extractLsb' 12 4).toFin
/-- `X`, op[11:8]. -/
def fieldX (op : Word) : Reg := (op.extractLsb' 8 4).toFin
/-- `Y`, op[7:4]. -/
def fieldY (op : Word) : Reg := (op.extractLsb' 4 4).toFin
/-- `N`, op[3:0]. -/
def fieldN (op : Word) : Nibble := (op.extractLsb' 0 4).toFin
/-- `NN`, op[7:0]. -/
def fieldNN (op : Word) : Byte := op.extractLsb' 0 8
/-- `NNN`, op[11:0]. -/
def fieldNNN (op : Word) : Addr12 := op.extractLsb' 0 12

/-! ### Decode -/

/-- Group 0x0: the match is on all 16 bits (R66, D10). -/
def decodeGroup0 (op : Word) : Instr :=
  if op = 0x00E0 then .cls
  else if op = 0x00EE then .ret
  else .unmatched op

/-- Group 0x8 dispatches on `N` (R67). -/
def decodeGroup8 (op : Word) : Instr :=
  let x := fieldX op
  let y := fieldY op
  match (fieldN op).val with
  | 0x0 => .copy x y
  | 0x1 => .or x y
  | 0x2 => .and x y
  | 0x3 => .xor x y
  | 0x4 => .add x y
  | 0x5 => .sub x y
  | 0x6 => .shr x y
  | 0x7 => .subn x y
  | 0xE => .shl x y
  | _ => .unmatched op

/-- Group 0xE dispatches on `NN` (R68). -/
def decodeGroupE (op : Word) : Instr :=
  match (fieldNN op).toNat with
  | 0x9E => .skipKey (fieldX op)
  | 0xA1 => .skipNoKey (fieldX op)
  | _ => .unmatched op

/-- Group 0xF dispatches on `NN` (R69). -/
def decodeGroupF (op : Word) : Instr :=
  let x := fieldX op
  match (fieldNN op).toNat with
  | 0x07 => .readDelay x
  | 0x0A => .waitKey x
  | 0x15 => .setDelay x
  | 0x18 => .setSound x
  | 0x1E => .addIndex x
  | 0x29 => .fontIndex x
  | 0x33 => .bcd x
  | 0x55 => .store x
  | 0x65 => .load x
  | _ => .unmatched op

/-- Primary dispatch on `g` (R65); total and unambiguous (R72). -/
def decode (op : Word) : Instr :=
  match (fieldG op).val with
  | 0x0 => decodeGroup0 op
  | 0x1 => .jump (fieldNNN op)
  | 0x2 => .call (fieldNNN op)
  | 0x3 => .skipEqImm (fieldX op) (fieldNN op)
  | 0x4 => .skipNeImm (fieldX op) (fieldNN op)
  | 0x5 => .skipEqReg (fieldX op) (fieldY op) (fieldN op)
  | 0x6 => .setImm (fieldX op) (fieldNN op)
  | 0x7 => .addImm (fieldX op) (fieldNN op)
  | 0x8 => decodeGroup8 op
  | 0x9 => .skipNeReg (fieldX op) (fieldY op) (fieldN op)
  | 0xA => .setIndex (fieldNNN op)
  | 0xB => .jumpV0 (fieldNNN op)
  | 0xC => .random (fieldX op) (fieldNN op)
  | 0xD => .draw (fieldX op) (fieldY op) (fieldN op)
  | 0xE => decodeGroupE op
  | _ => decodeGroupF op

/-- Why bytes do not decode. Every 16-bit word decodes (R72), so the only reason is that fewer than two bytes are
there (R60: every instruction is exactly 2 bytes). -/
inductive DecodeError where
  | truncated
deriving DecidableEq, Repr

/-- Decode the instruction at the head of a list of bytes, the byte at the lower address first and most significant
(R46, R61), and the bytes after it. -/
def decodeBytes : List Byte → Except DecodeError (Instr × List Byte)
  | hi :: lo :: rest => .ok (decode (hi ++ lo), rest)
  | _ => .error .truncated

/-- The decoder on a row of spec/opcode_table.json numbered as the table numbers it: bit 0 is the least significant
bit of the opcode word, which memory holds big-endian. Bits above `nbits` are 0; no instruction is longer than 16 bits
(R60). -/
def decodeTableWord (nbits w : Nat) : Option Instr :=
  let op := BitVec.ofNat 16 (w % 2 ^ nbits)
  if nbits ≤ 16 then
    match decodeBytes [op.extractLsb' 8 8, op.extractLsb' 0 8] with
    | .ok (i, _) => some i
    | .error _ => none
  else none

/-! ### Encode (formats of R63, function values of R73) -/

/-- A register number or nibble as four bits. -/
def bits4 (k : Fin 16) : BitVec 4 := BitVec.ofFin k

/-- Formats XY and XYN: four nibbles, the most significant first. -/
def wordXYN (g : BitVec 4) (x y : Reg) (n : BitVec 4) : Word := g ++ bits4 x ++ bits4 y ++ n

/-- Formats XNN and X: group, register, low byte. -/
def wordXNN (g : BitVec 4) (x : Reg) (nn : Byte) : Word := g ++ bits4 x ++ nn

/-- Format NNN: group and 12-bit immediate. -/
def wordNNN (g : BitVec 4) (nnn : Addr12) : Word := g ++ nnn

/-- The word of a well-formed instruction. -/
def encode : Instr → Word
  | .cls => 0x00E0
  | .ret => 0x00EE
  | .jump nnn => wordNNN 0x1 nnn
  | .call nnn => wordNNN 0x2 nnn
  | .skipEqImm x nn => wordXNN 0x3 x nn
  | .skipNeImm x nn => wordXNN 0x4 x nn
  | .skipEqReg x y n => wordXYN 0x5 x y (bits4 n)
  | .setImm x nn => wordXNN 0x6 x nn
  | .addImm x nn => wordXNN 0x7 x nn
  | .copy x y => wordXYN 0x8 x y 0x0
  | .or x y => wordXYN 0x8 x y 0x1
  | .and x y => wordXYN 0x8 x y 0x2
  | .xor x y => wordXYN 0x8 x y 0x3
  | .add x y => wordXYN 0x8 x y 0x4
  | .sub x y => wordXYN 0x8 x y 0x5
  | .shr x y => wordXYN 0x8 x y 0x6
  | .subn x y => wordXYN 0x8 x y 0x7
  | .shl x y => wordXYN 0x8 x y 0xE
  | .skipNeReg x y n => wordXYN 0x9 x y (bits4 n)
  | .setIndex nnn => wordNNN 0xA nnn
  | .jumpV0 nnn => wordNNN 0xB nnn
  | .random x nn => wordXNN 0xC x nn
  | .draw x y n => wordXYN 0xD x y (bits4 n)
  | .skipKey x => wordXNN 0xE x 0x9E
  | .skipNoKey x => wordXNN 0xE x 0xA1
  | .readDelay x => wordXNN 0xF x 0x07
  | .waitKey x => wordXNN 0xF x 0x0A
  | .setDelay x => wordXNN 0xF x 0x15
  | .setSound x => wordXNN 0xF x 0x18
  | .addIndex x => wordXNN 0xF x 0x1E
  | .fontIndex x => wordXNN 0xF x 0x29
  | .bcd x => wordXNN 0xF x 0x33
  | .store x => wordXNN 0xF x 0x55
  | .load x => wordXNN 0xF x 0x65
  | .unmatched w => w

/-- The two bytes of an instruction as memory holds them (R46). -/
def encodeBytes (i : Instr) : List Byte := [(encode i).extractLsb' 8 8, (encode i).extractLsb' 0 8]

/-! ### The opcode map (R73) -/

/-- One row of the opcode map: a word `w` is the instruction iff `w & mask = pattern`. -/
structure OpcodeRow where
  mnemonic : String
  pattern : Word
  mask : Word
deriving DecidableEq, Repr

/-- The row accepts the word. -/
def OpcodeRow.accepts (r : OpcodeRow) (w : Word) : Bool := w &&& r.mask == r.pattern

/-- The 34 instruction rows of R73, in opcode order. -/
def opcodeRows : List OpcodeRow :=
  [⟨"00E0", 0x00E0, 0xFFFF⟩, ⟨"00EE", 0x00EE, 0xFFFF⟩, ⟨"1NNN", 0x1000, 0xF000⟩, ⟨"2NNN", 0x2000, 0xF000⟩,
   ⟨"3XNN", 0x3000, 0xF000⟩, ⟨"4XNN", 0x4000, 0xF000⟩, ⟨"5XY0", 0x5000, 0xF000⟩, ⟨"6XNN", 0x6000, 0xF000⟩,
   ⟨"7XNN", 0x7000, 0xF000⟩] ++
  [⟨"8XY0", 0x8000, 0xF00F⟩, ⟨"8XY1", 0x8001, 0xF00F⟩, ⟨"8XY2", 0x8002, 0xF00F⟩, ⟨"8XY3", 0x8003, 0xF00F⟩,
   ⟨"8XY4", 0x8004, 0xF00F⟩, ⟨"8XY5", 0x8005, 0xF00F⟩, ⟨"8XY6", 0x8006, 0xF00F⟩, ⟨"8XY7", 0x8007, 0xF00F⟩,
   ⟨"8XYE", 0x800E, 0xF00F⟩] ++
  [⟨"9XY0", 0x9000, 0xF000⟩, ⟨"ANNN", 0xA000, 0xF000⟩, ⟨"BNNN", 0xB000, 0xF000⟩, ⟨"CXNN", 0xC000, 0xF000⟩,
   ⟨"DXYN", 0xD000, 0xF000⟩, ⟨"EX9E", 0xE09E, 0xF0FF⟩, ⟨"EXA1", 0xE0A1, 0xF0FF⟩] ++
  [⟨"FX07", 0xF007, 0xF0FF⟩, ⟨"FX0A", 0xF00A, 0xF0FF⟩, ⟨"FX15", 0xF015, 0xF0FF⟩, ⟨"FX18", 0xF018, 0xF0FF⟩,
   ⟨"FX1E", 0xF01E, 0xF0FF⟩, ⟨"FX29", 0xF029, 0xF0FF⟩, ⟨"FX33", 0xF033, 0xF0FF⟩, ⟨"FX55", 0xF055, 0xF0FF⟩,
   ⟨"FX65", 0xF065, 0xF0FF⟩]

end Sys2Proof
end

