-- ==== Sys2Proof/Config.lean ====
section
/-! DEFINITION. What is fixed for the machine (00_scope.md R4), the open parameters of R5 as one record of
configuration, and the free values the spec leaves to the outside (the random byte, the host's frames).
Conventions: notes/assumptions 5 to 9, 12 and 13. -/

namespace Sys2Proof

/-! ### Fixed parameters (R4) -/

/-- Size of memory in bytes, addresses 0x000 to 0xFFF. -/
def Config.memSize : Nat := 4096
/-- The pc after reset. -/
def Config.pcReset : Word := 0x200
/-- Capacity of the call stack. -/
def Config.stackDepth : Nat := 16
/-- Columns of the display. -/
def Config.cols : Nat := 64
/-- Rows of the display. -/
def Config.rows : Nat := 32
/-- Address of the font table. -/
def Config.fontBase : Nat := 0x0000
/-- Load address of the program image. -/
def Config.progBase : Nat := 0x200
/-- Practical maximum size of the program image. -/
def Config.progMax : Nat := 3584
/-- Cost budget of one tick, in abstract microseconds. -/
def Config.frameBudget : Nat := 16666

/-! ### The open parameters (R5) -/

/-- `VF_WRITE_ORDER`: which of the two writes of a flag-writing instruction comes last (41_alu.md R112). -/
inductive VfWriteOrder where
  | flagLast
  | resultLast
deriving DecidableEq, Repr, Inhabited

/-- A cost of at least 1 (46_step_and_tick.md R183), stored as one less, so that a zero cost cannot be written. -/
structure Cost where
  lessOne : Nat
deriving DecidableEq, Repr, Inhabited

/-- The cost as the natural number reported to the burst loop. -/
def Cost.toNat (c : Cost) : Nat := c.lessOne + 1

/-- The cost `n`, for `n` at least 1. -/
def Cost.of (n : Nat) : Cost := ⟨n - 1⟩

/-- The outcomes of an instruction between which 46_step_and_tick.md R182 tells costs apart. -/
inductive CostOutcome where
  /-- Every completion the others do not name; FX0A with a key found among them. -/
  | done
  /-- 2NNN on a full stack, 00EE on an empty one. -/
  | saturated
  /-- A conditional or key skip that skips. -/
  | taken
  /-- A conditional or key skip that does not. -/
  | notTaken
deriving DecidableEq, Repr

/-- The cost of one instruction, its operands included, with one outcome. A bit the instruction ignores (N of 5XYn and
9XYn, 30_encoding.md R70; Y of 8XY6 and 8XYE, 41_alu.md R108, R110) is no part of it and stands as 0. -/
structure CostEntry where
  instr : Instr
  outcome : CostOutcome
  cost : Cost
deriving DecidableEq, Repr

/-- The cost function of R5 as plain data: from an instruction and an outcome to a cost. It is 46_step_and_tick.md R182's
table, with the nine `COST_*` that table leaves open (each 1 by default: DESIGN CHOICE, notes/assumptions/6.md), but for
any finite list of departures from it, of which the first for an instruction and its outcome counts. The instructions are
finitely many, so every function of an instruction and its outcome that R183 allows is one of these tables (R190;
`Machine.costTable_represents`), and every claim quantifies over all of them. -/
structure CostTable where
  /-- Where the machine departs from R182. -/
  departures : List CostEntry := []
  /-- `COST_00E0`. -/
  cost00E0 : Cost := .of 1
  /-- `COST_8XY0`. -/
  cost8XY0 : Cost := .of 1
  /-- `COST_ANNN`. -/
  costANNN : Cost := .of 1
  /-- `COST_CXNN`. -/
  costCXNN : Cost := .of 1
  /-- `COST_FX07`. -/
  costFX07 : Cost := .of 1
  /-- `COST_FX15`. -/
  costFX15 : Cost := .of 1
  /-- `COST_FX18`. -/
  costFX18 : Cost := .of 1
  /-- `COST_FX1E`. -/
  costFX1E : Cost := .of 1
  /-- `COST_FX29`. -/
  costFX29 : Cost := .of 1
deriving DecidableEq, Repr

/-- The default font: the table of 20_memory.md R51, glyph `g` at bytes `5g` to `5g+4`
(UNVERIFIED: the spec marks the bytes as general knowledge; notes/assumptions/12.md). -/
def Config.defaultFont : Vector Byte 80 :=
  (#v[0xF0, 0x90, 0x90, 0x90, 0xF0,  0x20, 0x60, 0x20, 0x20, 0x70,  0xF0, 0x10, 0xF0, 0x80, 0xF0,  0xF0, 0x10, 0xF0, 0x10, 0xF0] : Vector Byte 20) ++
  (#v[0x90, 0x90, 0xF0, 0x10, 0x10,  0xF0, 0x80, 0xF0, 0x10, 0xF0,  0xF0, 0x80, 0xF0, 0x90, 0xF0,  0xF0, 0x10, 0x20, 0x40, 0x40] : Vector Byte 20) ++
  (#v[0xF0, 0x90, 0xF0, 0x90, 0xF0,  0xF0, 0x90, 0xF0, 0x10, 0xF0,  0xF0, 0x90, 0xF0, 0x90, 0x90,  0xE0, 0x90, 0xE0, 0x90, 0xE0] : Vector Byte 20) ++
  (#v[0xF0, 0x80, 0x80, 0x80, 0xF0,  0xE0, 0x90, 0x90, 0x90, 0xE0,  0xF0, 0x80, 0xF0, 0x80, 0xF0,  0xF0, 0x80, 0xF0, 0x80, 0x80] : Vector Byte 20)

/-- The configuration of one machine: the open parameters of R5 with the defaults R5 takes. No step writes it. -/
structure Config where
  vfWriteOrder : VfWriteOrder := .flagLast
  collisionToVf : Bool := false
  font : Vector Byte 80 := Config.defaultFont
  costs : CostTable := {}
deriving DecidableEq, Repr

/-! ### Free values -/

/-- `RandomByte()`: the byte the `k`-th execution of CXNN draws (10_state.md R24, D22: any value at every draw). -/
opaque Config.randomByte : Nat → Byte

/-- What the host does to the machine between two ticks (46_step_and_tick.md R188, 10_state.md R22 and R23): the two
key vectors it presents for the coming tick, and whether it did `SetDirty(false)` after presenting the last frame. -/
structure HostFrame where
  keysDown : BitVec 16
  keysReleased : BitVec 16
  clearDirty : Bool
deriving DecidableEq, Repr, Inhabited

/-- The host's frame before the `k`-th tick where `State.frames` schedules none (D20: unconstrained, no relation
between the vectors nor between ticks). -/
opaque Config.hostFrame : Nat → HostFrame

end Sys2Proof
end

