-- ==== Sys2Proof/Machine/State.lean ====
section
/-! DEFINITION. The state of the machine: everything 10_state.md R10 lists, the burst accumulator of R27, the input
ports of R22, the configuration of 00_scope.md R5, and the model's own fields (notes/assumptions 4, 7 and 8). Plain
data; no field has a function type. -/

namespace Sys2Proof.Machine

/-- Memory: address and byte pairs, addresses strictly rising, no entry equal to what an unlisted address reads as. -/
abbrev Memory := List Host.Cell

/-- The display grid: row `y` (0 the top), then column `x` (0 the left), `true` is set (R18). -/
abbrev Grid := Vector (Vector Bool 64) 32

/-- The causes of `MemFault` (60_exceptions.md R200). -/
inductive FaultCause where
  /-- The fetch of any step. -/
  | fetch
  /-- DXYN and FX65. -/
  | load
  /-- FX33 and FX55. -/
  | store
deriving DecidableEq, Repr

/-- The code of a cause (R200, D5). -/
def FaultCause.code : FaultCause → Nat
  | .fetch => 1
  | .load => 2
  | .store => 3

/-- The record `halt` holds after a `MemFault` (R200): cause, lowest out-of-range address, address of the faulting
instruction. -/
structure FaultRecord where
  cause : FaultCause
  addr : Nat
  ipc : Word
deriving DecidableEq, Repr

/-- Why a step stops with a fault of the interface: never. The hardware's one exception, `MemFault`, has an entry the
spec describes (60_exceptions.md R201), so it is a NEXT state with the `halt` latch set, and a step from a halted state
is a next state too (46_step_and_tick.md R180). No instruction raises a fault of this type; that is safe
(notes/assumptions/1.md). -/
inductive Fault
deriving DecidableEq, Repr

/-- Why an instruction has no meaning. -/
inductive Refusal where
  /-- Raised by an arm of `exec` whose instruction has no meaning yet; safe. No arm raises it: every row of the opcode
  table has its meaning. -/
  | notModelled (mnemonic : String)
deriving DecidableEq, Repr

structure State where
  /-- 4096 bytes (20_memory.md R40). -/
  mem : Memory
  /-- `V[0..15]`, V15 being VF (R11, R12). -/
  v : Vector Byte 16
  /-- The index register (R13). -/
  i : Word
  /-- The program counter: between instructions the next instruction's address, during one that address plus 2 (R14). -/
  pc : Word
  /-- The call stack's entries, live and dead (R15). -/
  stack : Vector Word 16
  /-- Entries in use, 0 to 16 (R15). -/
  sp : Fin 17
  /-- The delay timer (R17). -/
  dt : Byte
  /-- The sound timer (R17). -/
  st : Byte
  /-- The display surface (R18). -/
  grid : Grid
  /-- The grid changed since the last presented frame (R21). -/
  dirty : Bool
  /-- The audio port (R25). -/
  audioPlaying : Bool
  /-- The halt latch (R26, 60_exceptions.md R201). -/
  halt : Option FaultRecord
  /-- The burst accumulator of R27 (a): `none` between ticks, `some acc` inside a tick (46_step_and_tick.md R186). -/
  burst : Option Nat
  /-- Input port: key `k` is down (R22), constant during a tick. -/
  keysDown : BitVec 16
  /-- Input port: key `k` was released since the previous poll (R22), constant during a tick. -/
  keysReleased : BitVec 16
  /-- The open parameters of 00_scope.md R5; no step writes them. -/
  config : Config
  /-- The model's own: the cost the last step reported (46_step_and_tick.md R180, R181), `none` after a fault. -/
  cost : Option Nat
  /-- The model's own: the host's frames already scheduled, oldest first (R188). -/
  frames : List HostFrame
  /-- The model's own: ticks begun so far, the argument of `Config.hostFrame`. -/
  ticks : Nat
  /-- The model's own: random bytes drawn so far, the argument of `Config.randomByte`. -/
  draws : Nat
deriving DecidableEq, Repr

/-- The state after reset (70_reset_and_hazards.md R220, 10_state.md R29; notes/assumptions 4, 7, 8, 10 and 11 for
the values the spec does not give). The boot load of R221 comes after it. -/
def State.reset : State where
  mem := []
  v := Vector.replicate 16 0
  i := 0
  pc := Config.pcReset
  stack := Vector.replicate 16 0
  sp := 0
  dt := 0
  st := 0
  grid := Vector.replicate 32 (Vector.replicate 64 false)
  dirty := false
  audioPlaying := false
  halt := none
  burst := none
  keysDown := 0
  keysReleased := 0
  config := {}
  cost := none
  frames := []
  ticks := 0
  draws := 0

end Sys2Proof.Machine
end

