-- ==== Sys2Proof/Machine/Ops.lean ====
section
/-! DEFINITION. The named operations over memory and state: the primitives of 00_scope.md R7. Every register, port and
byte of memory is read and written through them. Taking the one exception is `State.memFault`; the hardware has no
return from it (60_exceptions.md R202). -/

namespace Sys2Proof.Machine

/-! ### Memory (20_memory.md) -/

/-- What an address that memory does not list reads as: the store is zero-initialized (R40; notes/assumptions/11.md). -/
def Memory.blank : Byte := 0

/-- The canonical form of memory. -/
abbrev Memory.wf (m : Memory) : Prop := m.Pairwise (fun c d => c.1 < d.1) ∧ ∀ c ∈ m, c.2 ≠ Memory.blank

/-- The byte at an address. -/
def Memory.read : Memory → Nat → Byte
  | [], _ => Memory.blank
  | c :: m, a => if c.1 = a then c.2 else Memory.read m a

/-- Put a byte before a list of higher addresses, unless it is what an unlisted address reads as. -/
def Memory.put (m : Memory) (a : Nat) (b : Byte) : Memory := if b = Memory.blank then m else (a, b) :: m

/-- Store one byte, keeping the canonical form. -/
def Memory.write : Memory → Nat → Byte → Memory
  | [], a, b => Memory.put [] a b
  | c :: m, a, b =>
    if c.1 < a then c :: Memory.write m a b
    else if c.1 = a then Memory.put m a b
    else Memory.put (c :: m) a b

/-- Store bytes at ascending addresses from `a` (R47). -/
def Memory.writeBytes : Memory → Nat → List Byte → Memory
  | m, _, [] => m
  | m, a, b :: bs => Memory.writeBytes (m.write a b) (a + 1) bs

/-- An address exists (R40, R42). -/
def inMemory (a : Nat) : Bool := a ≤ 0xFFF

/-- `MemRead(a, 1)` of an address the instruction has already checked (R42, R45, 42_index_memory.md R126). -/
def State.byteAt (s : State) (a : Nat) : Byte := s.mem.read a

/-- `count` bytes at ascending addresses from `a`. -/
def State.bytesAt (s : State) (a count : Nat) : List Byte := (List.range count).map fun k => s.byteAt (a + k)

/-- `MemWrite` of bytes at ascending addresses the instruction has already checked (R43, R45, R47). -/
def State.storeBytes (s : State) (a : Nat) (bs : List Byte) : State := { s with mem := s.mem.writeBytes a bs }

/-! ### Registers (10_state.md) -/

/-- `V[x]` (R11). -/
def State.reg (s : State) (x : Reg) : Byte := s.v[x]

/-- `V[x] <- b` (R11). -/
def State.setReg (s : State) (x : Reg) (b : Byte) : State := { s with v := s.v.set x b }

/-- The flag register VF (R12). -/
def vf : Reg := 15

/-- All sixteen registers at once. -/
def State.setRegs (s : State) (v : Vector Byte 16) : State := { s with v := v }

/-- `I <- w` (R13). -/
def State.setIndex (s : State) (w : Word) : State := { s with i := w }

/-- `pc <- w` (R14). -/
def State.setPc (s : State) (w : Word) : State := { s with pc := w }

/-- `pc <- (pc + 2) mod 65536`: the advance of the fetch (30_encoding.md R61) and of a taken skip (R14). -/
def State.advance (s : State) : State := s.setPc (s.pc + 2)

/-- `pc <- (pc - 2) mod 65536`: the rewind of an unresolved FX0A (R14, 44_timers_keys.md R165). -/
def State.rewind (s : State) : State := s.setPc (s.pc - 2)

/-- `DT <- b` (R17). -/
def State.setDelayTimer (s : State) (b : Byte) : State := { s with dt := b }

/-- `ST <- b` (R17). -/
def State.setSoundTimer (s : State) (b : Byte) : State := { s with st := b }

/-! ### The call stack (R15, R16) -/

/-- `Push(w)`: dropped on a full stack. -/
def State.push (s : State) (w : Word) : State :=
  if h : s.sp.val < 16 then { s with stack := s.stack.set s.sp.val w, sp := ⟨s.sp.val + 1, by omega⟩ }
  else s

/-- The value `Pop()` returns: none on an empty stack. -/
def State.top (s : State) : Option Word :=
  if h : 0 < s.sp.val then some (s.stack[s.sp.val - 1]'(by have := s.sp.isLt; omega)) else none

/-- The state after `Pop()`: the entry is not erased; nothing changes on an empty stack. -/
def State.drop (s : State) : State := { s with sp := ⟨s.sp.val - 1, by have := s.sp.isLt; omega⟩ }

/-! ### The display surface (R18 to R20) -/

/-- `G[y][x]`, unset outside the grid. -/
def Grid.cell (g : Grid) (x y : Nat) : Bool := if h : y < 32 ∧ x < 64 then g[y][x] else false

/-- `Flip(idx)`: toggles the cell at row `idx div 64`, column `idx mod 64` (R19, R20). An index of 2048 or more is
never given (R20) and toggles nothing. -/
def Grid.flip (g : Grid) (idx : Nat) : Grid :=
  if h : idx / 64 < 32 then
    g.set (idx / 64) (g[idx / 64].set (idx % 64) (!g[idx / 64][idx % 64]))
  else g

/-- Every cell unset. -/
def Grid.clear : Grid := Vector.replicate 32 (Vector.replicate 64 false)

/-- The grid after a blit. -/
def State.setGrid (s : State) (g : Grid) : State := { s with grid := g }

/-- `SetDirty(b)`. -/
def State.setDirty (s : State) (b : Bool) : State := { s with dirty := b }

/-- `ClearAll()`. -/
def State.clearAll (s : State) : State := (s.setGrid Grid.clear).setDirty true

/-! ### Ports (R22, R24, R25) -/

/-- `KeyDown(k)` of an 8-bit register value: a number above 15 names no key (D19). -/
def State.keyDown (s : State) (k : Byte) : Bool := if k.toNat ≤ 15 then s.keysDown.getLsbD k.toNat else false

/-- `KeyReleased(k)`. -/
def State.keyReleased (s : State) (k : Nat) : Bool := s.keysReleased.getLsbD k

/-- The first key of 0 to 15 in ascending order that was released (44_timers_keys.md R165). -/
def State.firstReleased (s : State) : Option Nat := (List.range 16).find? s.keyReleased

/-- `RandomByte()` of this draw: free (R24; notes/assumptions/7.md). -/
def State.randomByte (s : State) : Byte := Config.randomByte s.draws

/-- The draw is consumed: the next one is fresh. -/
def State.drawn (s : State) : State := { s with draws := s.draws + 1 }

/-! ### Cost and fault -/

/-- `cost <- c`: what the step reports to the burst loop (46_step_and_tick.md R181). -/
def State.report (s : State) (c : Nat) : State := { s with cost := some c }

/-- The figures of 46_step_and_tick.md R182. An unmatched word is never charged: it reports 0 (R183). -/
def givenCost (c : CostTable) (i : Instr) (o : CostOutcome) : Cost :=
  match i with
  | .ret | .jump _ | .call _ | .jumpV0 _ => .of 105
  | .skipEqImm _ _ | .skipNeImm _ _ | .skipEqReg _ _ _ | .skipNeReg _ _ _ | .skipKey _ | .skipNoKey _ =>
    if o = .taken then .of 64 else .of 55
  | .or _ _ | .and _ _ | .xor _ _ | .add _ _ | .sub _ _ | .shr _ _ | .subn _ _ | .shl _ _ => .of 200
  | .setImm _ _ => .of 27
  | .addImm _ _ => .of 45
  | .draw _ _ _ => .of 22734
  | .store x | .load x => .of (605 + 64 * x.val)
  | .bcd _ => .of 927
  | .waitKey _ | .unmatched _ => .of 1
  | .cls => c.cost00E0
  | .copy _ _ => c.cost8XY0
  | .setIndex _ => c.costANNN
  | .random _ _ => c.costCXNN
  | .readDelay _ => c.costFX07
  | .setDelay _ => c.costFX15
  | .setSound _ => c.costFX18
  | .addIndex _ => c.costFX1E
  | .fontIndex _ => c.costFX29

/-- The machine's cost of an instruction and its outcome: the first departure that names the two, else the figure of
R182 (R190). -/
def costFor (c : CostTable) (i : Instr) (o : CostOutcome) : Cost :=
  match c.departures.find? fun e => decide (e.instr = i ∧ e.outcome = o) with
  | some e => e.cost
  | none => givenCost c i o

/-- The cost an instruction reports on this machine when it ends in an outcome; at least 1 (R183). -/
def State.costOf (s : State) (i : Instr) (o : CostOutcome) : Nat := (costFor s.config.costs i o).toNat

/-- Report the cost of an instruction and its outcome. -/
def State.charge (s : State) (i : Instr) (o : CostOutcome) : State := s.report (s.costOf i o)

/-- A conditional skip: `pc <- pc + 2` once more when the condition holds (40_control_flow.md R84 to R87,
44_timers_keys.md R163, R164), with the cost of the instruction `i` and the outcome. The skipped bytes are not looked
at. -/
def State.skipIf (s : State) (i : Instr) (c : Bool) : State :=
  if c then s.advance.charge i .taken else s.charge i .notTaken

/-- `raise MemFault(cause, addr)` by the instruction at `ipc`: the halt latch is set, no cost is reported, and nothing
else changes (60_exceptions.md R201; 46_step_and_tick.md R182). -/
def State.memFault (s : State) (cause : FaultCause) (addr : Nat) (ipc : Word) : State :=
  { s with halt := some ⟨cause, addr, ipc⟩, cost := none }

/-! ### Fetch (30_encoding.md R61) -/

/-- The fetch at `pc` runs out of memory (R61, 60_exceptions.md R200). -/
def State.fetchOutOfRange (s : State) : Bool := !inMemory (s.pc.toNat + 1)

/-- The opcode word at `pc`, big-endian (20_memory.md R46). -/
def State.fetchWord (s : State) : Word := s.byteAt s.pc.toNat ++ s.byteAt (s.pc.toNat + 1)

/-- The fetch fault: reported at the lowest out-of-range address, pc unchanged (R61). -/
def State.fetchFault (s : State) : State := s.memFault .fetch (max s.pc.toNat 0x1000) s.pc

end Sys2Proof.Machine
end

