-- ==== Sys2Proof/Machine/Flags.lean ====
section
/-! DEFINITION. The flag values of 41_alu.md (R106 to R110, R113) and the one write of a result and its flag (R112). -/

namespace Sys2Proof.Machine

/-- A flag value: 0 or 1 in a byte (10_state.md R12). -/
def flagByte (b : Bool) : Byte := if b then 1 else 0

/-- Carry of an addition: 1 iff the sum exceeds 255 (R106, R113). -/
def carryOut (a b : Byte) : Byte := flagByte (a.toNat + b.toNat > 255)

/-- No borrow of `a - b`, strict: 1 iff `a > b` (R107, R109, R113). -/
def noBorrow (a b : Byte) : Byte := flagByte (a.toNat > b.toNat)

/-- The bit a right shift by one drops (R108). -/
def bitOutRight (a : Byte) : Byte := flagByte (a.getLsbD 0)

/-- The bit a left shift by one drops (R110). -/
def bitOutLeft (a : Byte) : Byte := flagByte (a.getLsbD 7)

/-- `WriteResultAndFlag`: both values computed before, written in the order of `VF_WRITE_ORDER` (R112, D7). -/
def State.writeResultAndFlag (s : State) (x : Reg) (result flag : Byte) : State :=
  match s.config.vfWriteOrder with
  | .flagLast => (s.setReg x result).setReg vf flag
  | .resultLast => (s.setReg vf flag).setReg x result

end Sys2Proof.Machine
end

