-- ==== Sys2Proof/Machine/Operands.lean ====
section
/-! DEFINITION. Operand forms: zero-extended immediates (30_encoding.md R64), the one data addressing mode `I + k` with
its range pre-check (42_index_memory.md R126, 20_memory.md R44), register blocks, decimal digits, and the start
coordinates of a sprite (43_display_blit.md R142). -/

namespace Sys2Proof.Machine

/-- `zext_16(NNN)` (R64). -/
def addrOf (nnn : Addr12) : Word := nnn.setWidth 16

/-- `zext_16(V[x])`. -/
def State.regWord (s : State) (x : Reg) : Word := (s.reg x).setWidth 16

/-- `count` bytes from `I` include an address above 0xFFF: the highest address `I + count - 1` is tested, in unbounded
naturals (R126, R44); no bytes include none. -/
def State.outOfRange (s : State) (count : Nat) : Bool := 1 ≤ count && !inMemory (s.i.toNat + (count - 1))

/-- The fault of a data access: reported at `max(I, 0x1000)`, by the instruction whose address the fetch advanced past
(R126, 60_exceptions.md R200; notes/assumptions/14.md). -/
def State.dataFault (s : State) (cause : FaultCause) : State := s.memFault cause (max s.i.toNat 0x1000) (s.pc - 2)

/-- The range pre-check: either the whole effect on `count` bytes from `I`, or the fault and nothing else (R126, D3). -/
def State.checked (s : State) (cause : FaultCause) (count : Nat) (effect : State) : State :=
  if s.outOfRange count then s.dataFault cause else effect

/-- `V0..VX` in ascending order (R124). -/
def State.regBlock (s : State) (x : Reg) : List Byte := (s.v.toList).take (x.val + 1)

/-- The registers after `V[k] <- MemRead(I + k)` for `k` in 0..X (R125). -/
def State.loadedRegs (s : State) (x : Reg) : Vector Byte 16 :=
  Vector.ofFn fun k => if k ≤ x then s.byteAt (s.i.toNat + k.val) else s.reg k

/-- Hundreds, tens and units of a byte (R123). -/
def decimalDigits (b : Byte) : List Byte :=
  [BitVec.ofNat 8 (b.toNat / 100), BitVec.ofNat 8 (b.toNat / 10 % 10), BitVec.ofNat 8 (b.toNat % 10)]

/-- `x0 = V[X] mod 64` (43_display_blit.md R142). -/
def State.spriteColumn (s : State) (x : Reg) : Nat := (s.reg x).toNat % 64

/-- `y0 = V[Y]`, not wrapped (R142). -/
def State.spriteRow (s : State) (y : Reg) : Nat := (s.reg y).toNat

end Sys2Proof.Machine
end

