-- ==== Sys2Proof/Machine/Alu.lean ====
section
/-! DEFINITION. Meanings of 41_alu.md: loads, arithmetic, logic, shifts and the random byte. All V arithmetic is unsigned
and wraps mod 256 (R113); operands are read before anything is written (R112). None of them can fault. -/

namespace Sys2Proof.Machine

/-- 6XNN (R100). -/
def execSetImm (x : Reg) (nn : Byte) (s : State) : Host.Outcome State Fault Refusal :=
  .next ((s.setReg x nn).charge (.setImm x nn) .done)

/-- 7XNN (R101): no flag. -/
def execAddImm (x : Reg) (nn : Byte) (s : State) : Host.Outcome State Fault Refusal :=
  .next ((s.setReg x (s.reg x + nn)).charge (.addImm x nn) .done)

/-- 8XY0 (R102). -/
def execCopy (x y : Reg) (s : State) : Host.Outcome State Fault Refusal :=
  .next ((s.setReg x (s.reg y)).charge (.copy x y) .done)

/-- 8XY1 (R103): VF is not touched (D8). -/
def execOr (x y : Reg) (s : State) : Host.Outcome State Fault Refusal :=
  .next ((s.setReg x (s.reg x ||| s.reg y)).charge (.or x y) .done)

/-- 8XY2 (R104): VF is not touched (D8). -/
def execAnd (x y : Reg) (s : State) : Host.Outcome State Fault Refusal :=
  .next ((s.setReg x (s.reg x &&& s.reg y)).charge (.and x y) .done)

/-- 8XY3 (R105): VF is not touched (D8). -/
def execXor (x y : Reg) (s : State) : Host.Outcome State Fault Refusal :=
  .next ((s.setReg x (s.reg x ^^^ s.reg y)).charge (.xor x y) .done)

/-- 8XY4 (R106): no carry in. -/
def execAdd (x y : Reg) (s : State) : Host.Outcome State Fault Refusal :=
  .next ((s.writeResultAndFlag x (s.reg x + s.reg y) (carryOut (s.reg x) (s.reg y))).charge (.add x y) .done)

/-- 8XY5 (R107). -/
def execSub (x y : Reg) (s : State) : Host.Outcome State Fault Refusal :=
  .next ((s.writeResultAndFlag x (s.reg x - s.reg y) (noBorrow (s.reg x) (s.reg y))).charge (.sub x y) .done)

/-- 8XY6 (R108): VX in place; Y is ignored, for the cost too. -/
def execShr (x : Reg) (s : State) : Host.Outcome State Fault Refusal :=
  .next ((s.writeResultAndFlag x (s.reg x >>> 1) (bitOutRight (s.reg x))).charge (.shr x 0) .done)

/-- 8XY7 (R109). -/
def execSubn (x y : Reg) (s : State) : Host.Outcome State Fault Refusal :=
  .next ((s.writeResultAndFlag x (s.reg y - s.reg x) (noBorrow (s.reg y) (s.reg x))).charge (.subn x y) .done)

/-- 8XYE (R110): VX in place; Y is ignored, for the cost too. -/
def execShl (x : Reg) (s : State) : Host.Outcome State Fault Refusal :=
  .next ((s.writeResultAndFlag x (s.reg x <<< 1) (bitOutLeft (s.reg x))).charge (.shl x 0) .done)

/-- CXNN (R111): one fresh free byte, masked. -/
def execRandom (x : Reg) (nn : Byte) (s : State) : Host.Outcome State Fault Refusal :=
  .next ((s.drawn.setReg x (s.randomByte &&& nn)).charge (.random x nn) .done)

end Sys2Proof.Machine
end

