-- ==== Sys2Proof/Machine/ControlFlow.lean ====
section
/-! DEFINITION. Meanings of 40_control_flow.md: 00EE, 1NNN, 2NNN, BNNN, the register skips and the unmatched word. On
entry pc is already advanced past the instruction (30_encoding.md R61). None of them can fault. -/

namespace Sys2Proof.Machine

/-- 00EE (R80): on an empty stack only the cost is reported, of an outcome of its own. -/
def execRet (s : State) : Host.Outcome State Fault Refusal :=
  .next (match s.top with
    | some w => (s.drop.setPc w).charge .ret .done
    | none => s.charge .ret .saturated)

/-- 1NNN (R81). -/
def execJump (nnn : Addr12) (s : State) : Host.Outcome State Fault Refusal :=
  .next ((s.setPc (addrOf nnn)).charge (.jump nnn) .done)

/-- 2NNN (R82): the advanced pc is pushed, and the jump is taken even when the push is dropped (D11). -/
def execCall (nnn : Addr12) (s : State) : Host.Outcome State Fault Refusal :=
  .next (((s.push s.pc).setPc (addrOf nnn)).charge (.call nnn) (if s.sp.val < 16 then .done else .saturated))

/-- BNNN (R83): always V0. -/
def execJumpV0 (nnn : Addr12) (s : State) : Host.Outcome State Fault Refusal :=
  .next ((s.setPc (addrOf nnn + s.regWord 0)).charge (.jumpV0 nnn) .done)

/-- 3XNN (R84). -/
def execSkipEqImm (x : Reg) (nn : Byte) (s : State) : Host.Outcome State Fault Refusal :=
  .next (s.skipIf (.skipEqImm x nn) (s.reg x == nn))

/-- 4XNN (R85). -/
def execSkipNeImm (x : Reg) (nn : Byte) (s : State) : Host.Outcome State Fault Refusal :=
  .next (s.skipIf (.skipNeImm x nn) (s.reg x != nn))

/-- 5XYn (R86): n is ignored, and the cost is that of 5XY0 (30_encoding.md R70). -/
def execSkipEqReg (x y : Reg) (s : State) : Host.Outcome State Fault Refusal :=
  .next (s.skipIf (.skipEqReg x y 0) (s.reg x == s.reg y))

/-- 9XYn (R87): n is ignored, and the cost is that of 9XY0 (30_encoding.md R70). -/
def execSkipNeReg (x y : Reg) (s : State) : Host.Outcome State Fault Refusal :=
  .next (s.skipIf (.skipNeReg x y 0) (s.reg x != s.reg y))

/-- The unmatched word (R88): a no-op of cost 0, whichever word it is. -/
def execUnmatched (s : State) : Host.Outcome State Fault Refusal :=
  .next (s.report 0)

end Sys2Proof.Machine
end

