-- ==== Sys2Proof/Machine/Display.lean ====
section
/-! DEFINITION. The sprite XOR blit engine (43_display_blit.md R140 to R147) and the meanings of 00E0 and DXYN. The
engine is the loop of R147 over the set bits of the rows, each in-range one a `Flip`, with the collision bit beside it. -/

namespace Sys2Proof.Machine

/-- One pixel under a set bit at column `x` and row `y`: the collision bit is raised if the cell is set, then the cell is
flipped (R145, R146). -/
def blitPixel (x y : Nat) (g : Grid) (collision : Bool) : Grid × Bool :=
  (g.flip (y * 64 + x), collision || g.cell x y)

/-- One sprite row at grid row `y`: the pixel at offset `c` is bit `7 - c` (R141) and lands on column `x0 + c`; the
first column at or beyond 64 ends the row (R144). -/
def blitColumns (x0 y : Nat) (row : Byte) : List Nat → Grid × Bool → Grid × Bool
  | [], gc => gc
  | c :: cs, gc =>
    if x0 + c ≥ 64 then gc
    else blitColumns x0 y row cs (if row.getLsbD (7 - c) then blitPixel (x0 + c) y gc.1 gc.2 else gc)

/-- The rows from grid row `y` down: the first row at or beyond 32 ends the blit (R143). -/
def blitRows (x0 : Nat) : Nat → List Byte → Grid × Bool → Grid × Bool
  | _, [], gc => gc
  | y, row :: rows, gc =>
    if y ≥ 32 then gc
    else blitRows x0 (y + 1) rows (blitColumns x0 y row (List.range 8) gc)

/-- `Blit` without its `SetDirty(1)`: the new grid and the collision bit (R147). -/
def blit (x0 y0 : Nat) (rows : List Byte) (g : Grid) : Grid × Bool := blitRows x0 y0 rows (g, false)

/-- What becomes of the collision bit: dropped, unless `COLLISION_TO_VF` (R146, D17). -/
def State.recordCollision (s : State) (collision : Bool) : State :=
  if s.config.collisionToVf then s.setReg vf (flagByte collision) else s

/-- 00E0 (R149). -/
def execCls (s : State) : Host.Outcome State Fault Refusal :=
  .next (s.clearAll.charge .cls .done)

/-- The effect of a DXYN whose bytes are all in memory: blit, dirty set even when nothing was flipped (R151), collision
bit. -/
def State.drawSprite (s : State) (x y : Reg) (n : Nibble) : State :=
  let out := blit (s.spriteColumn x) (s.spriteRow y) (s.bytesAt s.i.toNat n.val) s.grid
  ((s.setGrid out.1).setDirty true).recordCollision out.2

/-- DXYN (R150): all N bytes are checked before any flip, clipped rows included (D3); N = 0 cannot fault (D18). -/
def execDraw (x y : Reg) (n : Nibble) (s : State) : Host.Outcome State Fault Refusal :=
  .next (s.checked .load n.val ((s.drawSprite x y n).charge (.draw x y n) .done))

end Sys2Proof.Machine
end

