-- ==== Sys2Proof/Machine/IndexMemory.lean ====
section
/-! DEFINITION. Meanings of 42_index_memory.md: the index register and the memory transfers. A transfer checks its
whole range first and either does all of it or takes `MemFault` (R126); none of them changes I except to load it. -/

namespace Sys2Proof.Machine

/-- ANNN (R120). -/
def execSetIndex (nnn : Addr12) (s : State) : Host.Outcome State Fault Refusal :=
  .next ((s.setIndex (addrOf nnn)).charge (.setIndex nnn) .done)

/-- FX1E (R121): wraps mod 65536, no flag. -/
def execAddIndex (x : Reg) (s : State) : Host.Outcome State Fault Refusal :=
  .next ((s.setIndex (s.i + s.regWord x)).charge (.addIndex x) .done)

/-- FX29 (R122): unscaled, unmasked. -/
def execFontIndex (x : Reg) (s : State) : Host.Outcome State Fault Refusal :=
  .next ((s.setIndex (BitVec.ofNat 16 Config.fontBase + s.regWord x)).charge (.fontIndex x) .done)

/-- FX33 (R123). -/
def execBcd (x : Reg) (s : State) : Host.Outcome State Fault Refusal :=
  .next (s.checked .store 3 ((s.storeBytes s.i.toNat (decimalDigits (s.reg x))).charge (.bcd x) .done))

/-- FX55 (R124): I is unchanged (D14). -/
def execStore (x : Reg) (s : State) : Host.Outcome State Fault Refusal :=
  .next (s.checked .store (x.val + 1) ((s.storeBytes s.i.toNat (s.regBlock x)).charge (.store x) .done))

/-- FX65 (R125): I is unchanged (D14). -/
def execLoad (x : Reg) (s : State) : Host.Outcome State Fault Refusal :=
  .next (s.checked .load (x.val + 1) ((s.setRegs (s.loadedRegs x)).charge (.load x) .done))

end Sys2Proof.Machine
end

