-- ==== Sys2Proof/Machine/TimersKeys.lean ====
section
/-! DEFINITION. Meanings of 44_timers_keys.md: the timer moves, the key skips and the key wait. The key vectors are the
input ports of 10_state.md R22; reading them changes nothing. None of them can fault. -/

namespace Sys2Proof.Machine

/-- FX07 (R160). -/
def execReadDelay (x : Reg) (s : State) : Host.Outcome State Fault Refusal :=
  .next ((s.setReg x s.dt).charge (.readDelay x) .done)

/-- FX15 (R161). -/
def execSetDelay (x : Reg) (s : State) : Host.Outcome State Fault Refusal :=
  .next ((s.setDelayTimer (s.reg x)).charge (.setDelay x) .done)

/-- FX18 (R162): the audio port follows at the next tick. -/
def execSetSound (x : Reg) (s : State) : Host.Outcome State Fault Refusal :=
  .next ((s.setSoundTimer (s.reg x)).charge (.setSound x) .done)

/-- EX9E (R163). -/
def execSkipKey (x : Reg) (s : State) : Host.Outcome State Fault Refusal :=
  .next (s.skipIf (.skipKey x) (s.keyDown (s.reg x)))

/-- EXA1 (R164). -/
def execSkipNoKey (x : Reg) (s : State) : Host.Outcome State Fault Refusal :=
  .next (s.skipIf (.skipNoKey x) (!s.keyDown (s.reg x)))

/-- FX0A (R165): the lowest released key, or back onto this instruction with cost 0. -/
def execWaitKey (x : Reg) (s : State) : Host.Outcome State Fault Refusal :=
  .next (match s.firstReleased with
    | some k => (s.setReg x (BitVec.ofNat 8 k)).charge (.waitKey x) .done
    | none => s.rewind.report 0)

end Sys2Proof.Machine
end

