-- ==== Sys2Proof/Machine/Instruction.lean ====
section
/-! DEFINITION. The spec's `Step`: one instruction (46_step_and_tick.md R180). -/

namespace Sys2Proof.Machine

/-- `Step` (R180): a halted machine reports cost 0 and changes nothing else (R189); else fetch, which may fault, advance
pc, decode, and run the rule of the instruction. -/
def runInstruction (s : State) : Host.Outcome State Fault Refusal :=
  if s.halt.isSome then .next (s.report 0)
  else if s.fetchOutOfRange then .next s.fetchFault
  else exec (decode s.fetchWord) s.advance

/-- The table's word stored where the next step fetches (notes/assumptions/15.md). A pc no fetch succeeds at is put at
the entry point, and the halt latch is cleared, so that the very next step runs the word. -/
def State.placeWord (s : State) (nbits w : Nat) : State :=
  let pc := if s.fetchOutOfRange then Config.pcReset else s.pc
  let op := BitVec.ofNat 16 (w % 2 ^ nbits)
  { (s.storeBytes pc.toNat [op.extractLsb' 8 8, op.extractLsb' 0 8]) with pc := pc, halt := none }

end Sys2Proof.Machine
end

