-- ==== Sys2Proof/Machine/Tick.lean ====
section
/-! DEFINITION. The tick around the instructions (46_step_and_tick.md R184 to R188): what the host does before it, timer
decay, audio toggle, and the accounting of the burst after each instruction. Everything of a tick that is not an
instruction happens at the start of the step that runs the tick's first instruction (notes/assumptions/2.md). -/

namespace Sys2Proof.Machine

/-- The host's actions between two ticks: it may have cleared `dirty` after presenting the frame (10_state.md R23), and it
presents the key vectors of the coming tick (R22, R188). It touches nothing else. -/
def State.hostActs (s : State) (f : HostFrame) : State :=
  { s with keysDown := f.keysDown, keysReleased := f.keysReleased, dirty := s.dirty && !f.clearDirty }

/-- One timer: decremented, floored at 0 (R184, 10_state.md R17). -/
def decayed (b : Byte) : Byte := if b.toNat > 0 then b - 1 else b

/-- Timer decay (R184). -/
def State.decay (s : State) : State := (s.setDelayTimer (decayed s.dt)).setSoundTimer (decayed s.st)

/-- Audio toggle on the decremented sound timer: start if it is not 0 and nothing plays, stop if it is 0 and something
plays (R185). -/
def State.toggleAudio (s : State) : State :=
  if s.st ≠ 0 ∧ s.audioPlaying = false then { s with audioPlaying := true }
  else if s.st = 0 ∧ s.audioPlaying = true then { s with audioPlaying := false }
  else s

/-- The host's frame for the coming tick: the oldest scheduled one, else a free one (notes/assumptions/8.md). -/
def State.nextFrame (s : State) : HostFrame :=
  match s.frames with
  | f :: _ => f
  | [] => Config.hostFrame s.ticks

/-- The scheduled frame, if any, is consumed, and the tick is counted. -/
def State.frameUsed (s : State) : State := { s with frames := s.frames.tail, ticks := s.ticks + 1 }

/-- The accumulator starts at 0 (R186). -/
def State.openBurst (s : State) : State := { s with burst := some 0 }

/-- The start of a tick: host, decay, toggle, in that order, up to its first instruction (R187, R188). -/
def State.beginTick (s : State) : State := ((s.hostActs s.nextFrame).decay.toggleAudio.frameUsed).openBurst

/-- A new tick begins exactly when no burst is in progress. -/
def State.enterBurst (s : State) : State :=
  match s.burst with
  | some _ => s
  | none => s.beginTick

/-- The accumulator after an instruction that reported cost `c` on top of `acc`: the burst goes on unless the budget is
spent or the cost is 0 (R186). -/
def burstAfter (acc c : Nat) : Option Nat :=
  if acc + c ≥ Config.frameBudget ∨ c = 0 then none else some (acc + c)

/-- The burst accounting after an instruction: a fault reports no cost and ends the burst at once (R186, R189). -/
def State.account (s : State) : State :=
  { s with burst := match s.burst, s.cost with
    | some acc, some c => burstAfter acc c
    | _, _ => none }

/-- Account for the instruction in the burst, whatever it did. -/
def accounted : Host.Outcome State Fault Refusal → Host.Outcome State Fault Refusal
  | .next s => .next s.account
  | .fault r => .fault r
  | .refused r => .refused r

end Sys2Proof.Machine
end

