-- ==== Sys2Proof/Machine/Step.lean ====
section
/-! DEFINITION. The machine's step: exactly one instruction (46_step_and_tick.md R180), with the start of its tick
before it when no burst is in progress and the burst accounting after it (R184 to R186). A halted machine starts no
tick (R187, R189). -/

namespace Sys2Proof.Machine

def step (s : State) : Host.Outcome State Fault Refusal :=
  if s.halt.isSome then runInstruction s
  else accounted (runInstruction s.enterBurst)

/-- `s` with a word of spec/opcode_table.json stored where `step` fetches its next instruction. -/
def State.withFetchWord (s : State) (nbits w : Nat) : State := s.placeWord nbits w

end Sys2Proof.Machine
end

