-- ==== Sys2Proof/Machine/Boot.lean ====
section
/-! DEFINITION. The host's boot-time loads (20_memory.md R53; 70_reset_and_hazards.md R221). -/

namespace Sys2Proof.Machine

/-- `Load(address, bytes)`: defined only inside memory; a longer image is refused and no run exists (R53, D28). -/
def State.loadImage (s : State) (a : Nat) (bs : List Byte) : Option State :=
  if a + bs.length ≤ Config.memSize then some (s.storeBytes a bs) else none

/-- The boot load after reset and before the first tick: the font at 0x0000, then the program image at 0x200 (R221). -/
def State.boot (s : State) (image : List Byte) : Option State :=
  (s.loadImage Config.fontBase s.config.font.toList).bind fun t => t.loadImage Config.progBase image

/-- The launch state of a program on a machine of a given configuration (70_reset_and_hazards.md R223). -/
def State.launch (config : Config) (image : List Byte) : Option State :=
  State.boot { State.reset with config := config } image

end Sys2Proof.Machine
end

