-- ==== Sys2Proof/Machine/Frame.lean ====
section
/-! DEFINITION. The spec's `Tick` as one function: the start of the tick and its whole burst (46_step_and_tick.md R186,
R187), and the
frame of the host loop around it (R188). `step` is the same machine one instruction at a time. -/

namespace Sys2Proof.Machine

/-- The burst from inside a tick: instructions until one ends it. `fuel` bounds the number of steps; 16666 suffice, since
every step either ends the burst or adds at least 1 (R186). -/
def burstLoop : Nat → State → Host.Outcome State Fault Refusal
  | 0, s => .next s
  | fuel + 1, s =>
    match accounted (runInstruction s) with
    | .next t => if t.burst.isNone then .next t else burstLoop fuel t
    | .fault r => .fault r
    | .refused r => .refused r

/-- `Tick` (R187): nothing at all on a halted machine (R189), else the start of the tick and its burst. The host's frame
is `State.nextFrame`, so a chosen one is given by scheduling it in `State.frames`. -/
def tick (s : State) : Host.Outcome State Fault Refusal :=
  if s.halt.isSome then .next s else burstLoop Config.frameBudget s.beginTick

/-- One frame of the host loop with the host's action `f` chosen (46_step_and_tick.md R188): the host acts, then `Tick`. On
a halted machine the tick does nothing, and what the host does to the ports and to `dirty` is all that changes. -/
def frame (f : HostFrame) (s : State) : Host.Outcome State Fault Refusal :=
  if s.halt.isSome then .next (s.hostActs f) else tick { s with frames := f :: s.frames }

end Sys2Proof.Machine
end

