-- ==== Sys2Proof/Safety.lean ====
section
/-! DEFINITION. The terms claims are stated in: the invariant of a safe state, what a step leaves alone, and the spec's
tables (faults R200, costs R182, sprite pixels R147) written a second time, apart from the meanings, in plain arithmetic. -/

namespace Sys2Proof.Machine

/-! ### The invariant -/

/-- What holds of every state a run can reach. -/
structure State.Inv (s : State) : Prop where
  /-- Memory is in canonical form. -/
  memCanonical : s.mem.wf
  /-- No byte is listed at an address that does not exist (20_memory.md R40). -/
  memExists : ∀ c ∈ s.mem, c.1 ≤ 0xFFF
  /-- No wrap of pc is reachable: the furthest pc is BNNN's 0xFFF + 0xFF (10_state.md R14). -/
  pcReach : s.pc.toNat ≤ 0x10FE
  /-- Every return address is the advanced pc of a fetched call, so at most 0x1000. -/
  stackReach : ∀ k : Fin 16, s.stack[k].toNat ≤ 0x1000
  /-- A burst in progress has budget left (46_step_and_tick.md R186). -/
  burstBelowBudget : ∀ acc, s.burst = some acc → acc < 16666
  /-- A fault has ended its burst (R189). -/
  haltEndsBurst : ∀ r, s.halt = some r → s.burst = none
  /-- The recorded address does not exist and fits 16 bits (60_exceptions.md R200). -/
  haltAddr : ∀ r, s.halt = some r → 0x1000 ≤ r.addr ∧ r.addr ≤ 0xFFFF
  /-- pc is at the instruction that faulted in its fetch, and past the one that faulted in its data access (R201). -/
  haltPc : ∀ r, s.halt = some r → s.pc = if r.cause = .fetch then r.ipc else r.ipc + 2

/-! ### What is left alone -/

/-- Every general register outside a list. -/
def KeepsRegs (written : List Reg) (s t : State) : Prop := ∀ r, r ∉ written → t.reg r = s.reg r

/-- Every byte of memory. -/
def KeepsMemory (s t : State) : Prop := ∀ a, t.byteAt a = s.byteAt a

/-- Every byte of memory outside `count` bytes from `a`. -/
def KeepsMemoryOutside (a count : Nat) (s t : State) : Prop := ∀ b, b < a ∨ a + count ≤ b → t.byteAt b = s.byteAt b

/-- The call stack, dead entries included. -/
def KeepsStack (s t : State) : Prop := t.stack = s.stack ∧ t.sp = s.sp

/-- Both timers. -/
def KeepsTimers (s t : State) : Prop := t.dt = s.dt ∧ t.st = s.st

/-- The grid, cell by cell, and the dirty flag. -/
def KeepsDisplay (s t : State) : Prop := (∀ x y, t.grid.cell x y = s.grid.cell x y) ∧ t.dirty = s.dirty

/-- What no instruction ever touches: the audio and key ports, the burst accumulator, the configuration, the host's
schedule. -/
def KeepsSurroundings (s t : State) : Prop :=
  t.audioPlaying = s.audioPlaying ∧ t.keysDown = s.keysDown ∧ t.keysReleased = s.keysReleased ∧ t.burst = s.burst ∧
  t.config = s.config ∧ t.frames = s.frames ∧ t.ticks = s.ticks

/-- The registers an instruction of 41_alu.md writes (R114): VX, and VF for the flag writers. -/
def aluWrites : Instr → Option (List Reg)
  | .setImm x _ | .addImm x _ | .copy x _ | .or x _ | .and x _ | .xor x _ | .random x _ => some [x]
  | .add x _ | .sub x _ | .shr x _ | .subn x _ | .shl x _ => some [x, 15]
  | .cls | .ret | .jump _ | .call _ | .skipEqImm _ _ | .skipNeImm _ _ | .skipEqReg _ _ _ | .skipNeReg _ _ _
  | .setIndex _ | .jumpV0 _ | .draw _ _ _ | .skipKey _ | .skipNoKey _ | .readDelay _ | .waitKey _ | .setDelay _
  | .setSound _ | .addIndex _ | .fontIndex _ | .bcd _ | .store _ | .load _ | .unmatched _ => none

/-- The instructions that write VF as a flag (10_state.md R12). -/
def writesFlag : Instr → Bool
  | .add _ _ | .sub _ _ | .shr _ _ | .subn _ _ | .shl _ _ => true
  | .cls | .ret | .jump _ | .call _ | .skipEqImm _ _ | .skipNeImm _ _ | .skipEqReg _ _ _ | .skipNeReg _ _ _
  | .setImm _ _ | .addImm _ _ | .copy _ _ | .or _ _ | .and _ _ | .xor _ _ | .random _ _
  | .setIndex _ | .jumpV0 _ | .draw _ _ _ | .skipKey _ | .skipNoKey _ | .readDelay _ | .waitKey _ | .setDelay _
  | .setSound _ | .addIndex _ | .fontIndex _ | .bcd _ | .store _ | .load _ | .unmatched _ => false

/-- The instructions that name VF as a destination: X = F, and FX65 only when it loads all sixteen registers. -/
def namesVfAsDestination : Instr → Bool
  | .setImm x _ | .addImm x _ | .copy x _ | .or x _ | .and x _ | .xor x _ | .random x _ | .readDelay x | .waitKey x
  | .load x | .add x _ | .sub x _ | .shr x _ | .subn x _ | .shl x _ => x == 15
  | .cls | .ret | .jump _ | .call _ | .skipEqImm _ _ | .skipNeImm _ _ | .skipEqReg _ _ _ | .skipNeReg _ _ _
  | .setIndex _ | .jumpV0 _ | .draw _ _ _ | .skipKey _ | .skipNoKey _ | .setDelay _
  | .setSound _ | .addIndex _ | .fontIndex _ | .bcd _ | .store _ | .unmatched _ => false

/-! ### The spec's tables again, in plain arithmetic -/

/-- A byte and a word from a number. -/
abbrev byteOf (n : Nat) : Byte := BitVec.ofNat 8 n
abbrev wordOf (n : Nat) : Word := BitVec.ofNat 16 n

/-- The registers after a result and its flag (41_alu.md R112): the second write wins when both name VF. -/
def State.withResultAndFlag (s : State) (x : Reg) (result flag : Byte) : Vector Byte 16 :=
  match s.config.vfWriteOrder with
  | .flagLast => (s.v.set x result).set 15 flag
  | .resultLast => (s.v.set 15 flag).set x result

/-- The fault table of 60_exceptions.md R200 for data accesses: index register, address of the instruction. -/
def dataFaultOf (i : Instr) (index ipc : Word) : Option FaultRecord :=
  match i with
  | .draw _ _ n =>
    if n.val ≥ 1 ∧ index.toNat + n.val - 1 > 0xFFF then some ⟨.load, max index.toNat 0x1000, ipc⟩ else none
  | .load x => if index.toNat + x.val > 0xFFF then some ⟨.load, max index.toNat 0x1000, ipc⟩ else none
  | .bcd _ => if index.toNat + 2 > 0xFFF then some ⟨.store, max index.toNat 0x1000, ipc⟩ else none
  | .store x => if index.toNat + x.val > 0xFFF then some ⟨.store, max index.toNat 0x1000, ipc⟩ else none
  | .cls | .ret | .jump _ | .call _ | .skipEqImm _ _ | .skipNeImm _ _ | .skipEqReg _ _ _ | .skipNeReg _ _ _
  | .setImm _ _ | .addImm _ _ | .copy _ _ | .or _ _ | .and _ _ | .xor _ _ | .add _ _ | .sub _ _ | .shr _ _
  | .subn _ _ | .shl _ _ | .random _ _ | .setIndex _ | .jumpV0 _ | .skipKey _ | .skipNoKey _ | .readDelay _
  | .waitKey _ | .setDelay _ | .setSound _ | .addIndex _ | .fontIndex _ | .unmatched _ => none

/-- The state after the fault of a data access by the instruction that the fetch has advanced past, if the access is out
of range: the record is written, no cost is reported, nothing else changes (R201). -/
def State.afterDataFault (s : State) (cause : FaultCause) : State :=
  { s with halt := some ⟨cause, max s.i.toNat 0x1000, s.pc - 2⟩, cost := none }

/-- A cost function departs nowhere from the figures 46_step_and_tick.md R182 gives; the nine `COST_*` are any cost. -/
def GivenFigures (c : CostTable) : Prop := c.departures = []

/-- On a machine with R182's figures, `cost` is the number given. -/
def State.Figure (s : State) (cost : Nat) (n : Nat) : Prop := GivenFigures s.config.costs → cost = n

/-- The cost table of R182 with its figures: what an instruction reports from a state, if it does not fault. -/
def figureOf (i : Instr) (s : State) : Nat :=
  let skip (taken : Bool) : Nat := if taken then 64 else 55
  match i with
  | .ret | .jump _ | .call _ | .jumpV0 _ => 105
  | .skipEqImm x nn => skip (s.reg x == nn)
  | .skipNeImm x nn => skip (s.reg x != nn)
  | .skipEqReg x y _ => skip (s.reg x == s.reg y)
  | .skipNeReg x y _ => skip (s.reg x != s.reg y)
  | .skipKey x => skip (decide ((s.reg x).toNat ≤ 15) && s.keysDown.getLsbD (s.reg x).toNat)
  | .skipNoKey x => skip (!(decide ((s.reg x).toNat ≤ 15) && s.keysDown.getLsbD (s.reg x).toNat))
  | .or _ _ | .and _ _ | .xor _ _ | .add _ _ | .sub _ _ | .shr _ _ | .subn _ _ | .shl _ _ => 200
  | .setImm _ _ => 27
  | .addImm _ _ => 45
  | .draw _ _ _ => 22734
  | .store x | .load x => 605 + 64 * x.val
  | .bcd _ => 927
  | .waitKey _ => if s.keysReleased = 0 then 0 else 1
  | .unmatched _ => 0
  | .cls => s.config.costs.cost00E0.toNat
  | .copy _ _ => s.config.costs.cost8XY0.toNat
  | .setIndex _ => s.config.costs.costANNN.toNat
  | .random _ _ => s.config.costs.costCXNN.toNat
  | .readDelay _ => s.config.costs.costFX07.toNat
  | .setDelay _ => s.config.costs.costFX15.toNat
  | .setSound _ => s.config.costs.costFX18.toNat
  | .addIndex _ => s.config.costs.costFX1E.toNat
  | .fontIndex _ => s.config.costs.costFX29.toNat

/-- `s(x, y)` of 43_display_blit.md R147: the sprite of `n` rows at column `x0`, row `y0` has a set bit over cell
`(x, y)`; bit 7 of a row is its leftmost pixel (R141). -/
def spriteBit (x0 y0 n : Nat) (row : Nat → Byte) (x y : Nat) : Bool :=
  decide (y0 ≤ y ∧ y < y0 + n ∧ x0 ≤ x ∧ x < x0 + 8) && (row (y - y0)).getLsbD (7 - (x - x0))

/-- `spriteBit` of a DXYN from a state: column `VX mod 64`, row `VY`, bytes from `I` (R142, R150). -/
def State.drawBit (s : State) (x y : Reg) (n : Nibble) (cx cy : Nat) : Bool :=
  spriteBit ((s.reg x).toNat % 64) (s.reg y).toNat n.val (fun r => s.byteAt (s.i.toNat + r)) cx cy

/-- Instructions executed one after the other, without fetches between them; none if one does not answer a next state. -/
def execAll : List Instr → State → Option State
  | [], s => some s
  | i :: is, s =>
    match exec i s with
    | .next t => execAll is t
    | .fault _ => none
    | .refused _ => none

end Sys2Proof.Machine
end

