-- ==== Sys2Proof/Certificates/Slice0/Obligations.lean ====
section
/-! DEFINITION. The statements for the provers. Each docstring names the rule of spec/ it formalises; OBLIGATIONS.json
has the quote. Values are written in arithmetic on numbers, apart from the meanings' own operations. Where a rule
gives a cost, the statement gives the cost the machine's cost function has for the instruction and its outcome, for
every cost function (46_step_and_tick.md R190), and that it is R182's figure on a machine that departs nowhere from
R182. -/

open Sys2Proof Sys2Proof.Machine

/-! ### Encoding -/

/-- 30_encoding.md R62, R63: no bit of an operand is lost. -/
def Obligations.DecodeOfEncodeIsTheInstruction : Prop :=
  ∀ i : Instr, i.wf = true → decode (encode i) = i

/-- 30_encoding.md R72: every 16-bit word is one well-formed instruction (an unmatched word among them); and its word
is that word again, which holds because the bits the spec ignores (R70, R108, R110) are fields of the model's
instruction (notes/assumptions/16.md, DEDUCED), not by R72 alone. -/
def Obligations.EncodeOfDecodeIsTheWord : Prop :=
  ∀ w : Word, encode (decode w) = w ∧ (decode w).wf = true

/-- 30_encoding.md R73: a row of the opcode map matches a word iff the word decodes to that row's instruction; a word no
row matches decodes to the unmatched instruction. -/
def Obligations.OpcodeMapMatchesDecoder : Prop :=
  ∀ w : Word, (∀ r ∈ opcodeRows, (w &&& r.mask = r.pattern ↔ r.mnemonic = (decode w).mnemonic)) ∧
    ((∀ r ∈ opcodeRows, w &&& r.mask ≠ r.pattern) ↔ decode w = .unmatched w)

/-- 30_encoding.md R70 (D9): words of group 5, and words of group 9, that differ only in N do the same, and the masks of
their rows leave N out. -/
def Obligations.LowNibbleOfGroups5And9Ignored : Prop :=
  (∀ (w w' : Word) (s : State), w.toNat / 16 = w'.toNat / 16 → (w.toNat / 4096 = 5 ∨ w.toNat / 4096 = 9) →
    exec (decode w) s = exec (decode w') s ∧ (decode w).mnemonic = (if w.toNat / 4096 = 5 then "5XY0" else "9XY0")) ∧
  (∀ r ∈ opcodeRows, r.mnemonic = "5XY0" ∨ r.mnemonic = "9XY0" → r.mask = 0xF000)

/-- 30_encoding.md section 3, clauses (a) to (d) of the unmatched space (their count is not stated), and that each of
its words is a no-op of cost 0. -/
def Obligations.UnmatchedSpaceIsAsListed : Prop :=
  (∀ w : Word, decode w = .unmatched w ↔
    (w.toNat / 4096 = 0 ∧ w ≠ 0x00E0 ∧ w ≠ 0x00EE) ∨
    (w.toNat / 4096 = 8 ∧ w.toNat % 16 ∈ [0x8, 0x9, 0xA, 0xB, 0xC, 0xD, 0xF]) ∨
    (w.toNat / 4096 = 0xE ∧ w.toNat % 256 ∉ [0x9E, 0xA1]) ∨
    (w.toNat / 4096 = 0xF ∧ w.toNat % 256 ∉ [0x07, 0x0A, 0x15, 0x18, 0x1E, 0x29, 0x33, 0x55, 0x65])) ∧
  (∀ (w : Word) (s : State), decode w = .unmatched w → exec (decode w) s = .next { s with cost := some 0 })

/-- 30_encoding.md R62, R73, 95_test_vectors.md T-D1 to T-D14: words written out decode to the instruction they stand
for. -/
def Obligations.SampleWordsDecode : Prop :=
  decode 0x8AB4 = .add 10 11 ∧ decode 0xD125 = .draw 1 2 5 ∧ decode 0x00E0 = .cls ∧ decode 0x00EE = .ret ∧
  decode 0x1234 = .jump 0x234 ∧ decode 0x6AFF = .setImm 10 0xFF ∧ decode 0xF30A = .waitKey 3 ∧
  decode 0xF533 = .bcd 5 ∧ decode 0xE19E = .skipKey 1 ∧ decode 0x8128 = .unmatched 0x8128

/-! ### Step -/

/-- 46_step_and_tick.md R180 with 30_encoding.md R61: a halted machine reports cost 0 and changes nothing else; a
fetch that runs past 0xFFF faults at the lowest missing address with pc unchanged; else pc is advanced by 2 mod 65536
before the decoded instruction runs. -/
def Obligations.StepFetchesThenRuns : Prop :=
  ∀ s : State,
    (s.halt.isSome = true → runInstruction s = .next { s with cost := some 0 }) ∧
    (s.halt = none → s.pc.toNat + 1 > 0xFFF →
      runInstruction s = .next { s with halt := some ⟨.fetch, max s.pc.toNat 0x1000, s.pc⟩, cost := none }) ∧
    (s.halt = none → s.pc.toNat + 1 ≤ 0xFFF →
      ∃ t, runInstruction s = .next t ∧
        exec (decode (wordOf ((s.byteAt s.pc.toNat).toNat * 256 + (s.byteAt (s.pc.toNat + 1)).toNat)))
          { s with pc := wordOf ((s.pc.toNat + 2) % 65536) } = .next t)

/-- A step runs the decoded instruction: when the bytes at pc decode to a well-formed instruction, the machine's step
is that instruction from the advanced pc (46_step_and_tick.md R180), with the start of the tick before it when no
burst is in progress, and the burst accounting after it. That `step` holds the two, R180's Step neither, is the
model's placing (notes/assumptions/2.md, DESIGN CHOICE). -/
def Obligations.StepRunsTheDecodedInstruction : Prop :=
  ∀ (s : State) (i : Instr), s.halt = none → s.pc.toNat + 1 ≤ 0xFFF → i.wf = true →
    decodeBytes [s.byteAt s.pc.toNat, s.byteAt (s.pc.toNat + 1)] = .ok (i, []) →
    ∃ t, exec i { s.enterBurst with pc := wordOf ((s.pc.toNat + 2) % 65536) } = .next t ∧ step s = .next t.account

/-- 00_scope.md R8: a step yields exactly one of a next state with a cost (the halt latch as before), or a fault, which
sets the latch; there is no third outcome, and an unmatched word is the former with cost 0. -/
def Obligations.StepYieldsCostOrFault : Prop :=
  ∀ s : State, ∃ t, step s = .next t ∧
    ((t.halt = s.halt ∧ ∃ c, t.cost = some c) ∨ (t.cost = none ∧ s.halt = none ∧ ∃ r, t.halt = some r)) ∧
    (s.halt = none → s.pc.toNat + 1 ≤ 0xFFF → (∃ w, decode s.fetchWord = .unmatched w) →
      t.halt = none ∧ t.cost = some 0)

/-- 46_step_and_tick.md R189, of Step and Tick: from a halted state no number of steps and no tick changes anything (a
step reports cost 0); a step that faults ends its burst, and the decay and audio toggle of its tick stand. That a run
of steps keeps dirty and the key ports too is the model's placing of the host (notes/assumptions/9.md, DESIGN CHOICE):
the host may still clear dirty and present keys (R188), which is `frame`. -/
def Obligations.HaltedMachineIsFrozen : Prop :=
  (∀ s : State, s.halt.isSome = true → tick s = .next s ∧
    ∀ k, ∃ t, core.run k s = .next t ∧ t = { s with cost := if k = 0 then s.cost else some 0 }) ∧
  (∀ s t : State, s.halt = none → step s = .next t → t.halt.isSome = true →
    t.burst = none ∧ t.dt = s.enterBurst.dt ∧ t.st = s.enterBurst.st ∧ t.audioPlaying = s.enterBurst.audioPlaying)

/-! ### Faults -/

/-- 60_exceptions.md R200: the table of causes. Every instruction, from the state its fetch leaves (pc two past its
address), ends halted exactly as the table says, with a recorded address in 0x1000..0xFFFF; the fetch row likewise. -/
def Obligations.OnlyTabledAccessesFault : Prop :=
  (FaultCause.fetch.code = 1 ∧ FaultCause.load.code = 2 ∧ FaultCause.store.code = 3) ∧
  (∀ s t : State, s.halt = none → runInstruction s = .next t →
    t.halt = if s.pc.toNat + 1 > 0xFFF then some ⟨.fetch, max s.pc.toNat 0x1000, s.pc⟩
      else dataFaultOf (decode s.fetchWord) s.i s.pc) ∧
  (∀ (i : Instr) (s t : State) (r : FaultRecord), s.halt = none → exec i s = .next t → t.halt = some r →
    0x1000 ≤ r.addr ∧ r.addr ≤ 0xFFFF)

/-- 60_exceptions.md R201: a fault writes the record and nothing else; pc stays advanced after a data fault and is
unchanged after a fetch fault. No cost is reported. -/
def Obligations.FaultsArePrecise : Prop :=
  ∀ (s t : State) (r : FaultRecord), s.halt = none → runInstruction s = .next t → t.halt = some r →
    t = { s with halt := some r, cost := none, pc := if r.cause = .fetch then s.pc else s.pc + 2 } ∧ r.ipc = s.pc

/-! ### Control flow -/

/-- 40_control_flow.md R80. -/
def Obligations.ReturnPopsOrFallsThrough : Prop :=
  ∀ s : State,
    (s.sp.val = 0 → exec .ret s = .next { s with cost := some (s.costOf .ret .saturated) }) ∧
    (∀ k : Fin 16, s.sp.val = k.val + 1 →
      exec .ret s = .next { s with sp := k.castSucc, pc := s.stack[k], cost := some (s.costOf .ret .done) }) ∧
    s.Figure (s.costOf .ret .done) 105 ∧ s.Figure (s.costOf .ret .saturated) 105

/-- 40_control_flow.md R81, R83: pc becomes NNN, or NNN + V0 mod 65536. -/
def Obligations.JumpsSetPc : Prop :=
  ∀ (nnn : Addr12) (s : State),
    exec (.jump nnn) s = .next { s with pc := wordOf nnn.toNat, cost := some (s.costOf (.jump nnn) .done) } ∧
    exec (.jumpV0 nnn) s = .next { s with
      pc := wordOf ((nnn.toNat + (s.reg 0).toNat) % 65536), cost := some (s.costOf (.jumpV0 nnn) .done) } ∧
    s.Figure (s.costOf (.jump nnn) .done) 105 ∧ s.Figure (s.costOf (.jumpV0 nnn) .done) 105

/-- 40_control_flow.md R82: the advanced pc is pushed, dropped on a full stack; the jump is taken in both cases. -/
def Obligations.CallPushesAndJumps : Prop :=
  ∀ (nnn : Addr12) (s : State),
    (∀ k : Fin 16, s.sp.val = k.val → exec (.call nnn) s = .next { s with
      stack := s.stack.set k s.pc, sp := k.succ, pc := wordOf nnn.toNat,
      cost := some (s.costOf (.call nnn) .done) }) ∧
    (s.sp.val = 16 → exec (.call nnn) s = .next { s with
      pc := wordOf nnn.toNat, cost := some (s.costOf (.call nnn) .saturated) }) ∧
    s.Figure (s.costOf (.call nnn) .done) 105 ∧ s.Figure (s.costOf (.call nnn) .saturated) 105

/-- 40_control_flow.md R84, R85. -/
def Obligations.ImmediateSkipsCompare : Prop :=
  ∀ (x : Reg) (nn : Byte) (s : State),
    exec (.skipEqImm x nn) s = .next { s with
      pc := if (s.reg x).toNat = nn.toNat then wordOf ((s.pc.toNat + 2) % 65536) else s.pc,
      cost := some (s.costOf (.skipEqImm x nn) (if (s.reg x).toNat = nn.toNat then .taken else .notTaken)) } ∧
    exec (.skipNeImm x nn) s = .next { s with
      pc := if (s.reg x).toNat = nn.toNat then s.pc else wordOf ((s.pc.toNat + 2) % 65536),
      cost := some (s.costOf (.skipNeImm x nn) (if (s.reg x).toNat = nn.toNat then .notTaken else .taken)) } ∧
    s.Figure (s.costOf (.skipEqImm x nn) .taken) 64 ∧ s.Figure (s.costOf (.skipEqImm x nn) .notTaken) 55 ∧
    s.Figure (s.costOf (.skipNeImm x nn) .taken) 64 ∧ s.Figure (s.costOf (.skipNeImm x nn) .notTaken) 55

/-- 40_control_flow.md R86, R87: for every value n of the ignored nibble. -/
def Obligations.RegisterSkipsCompare : Prop :=
  ∀ (x y : Reg) (n : Nibble) (s : State),
    exec (.skipEqReg x y n) s = .next { s with
      pc := if (s.reg x).toNat = (s.reg y).toNat then wordOf ((s.pc.toNat + 2) % 65536) else s.pc,
      cost := some (s.costOf (.skipEqReg x y 0) (if (s.reg x).toNat = (s.reg y).toNat then .taken else .notTaken)) } ∧
    exec (.skipNeReg x y n) s = .next { s with
      pc := if (s.reg x).toNat = (s.reg y).toNat then s.pc else wordOf ((s.pc.toNat + 2) % 65536),
      cost := some (s.costOf (.skipNeReg x y 0) (if (s.reg x).toNat = (s.reg y).toNat then .notTaken else .taken)) } ∧
    s.Figure (s.costOf (.skipEqReg x y 0) .taken) 64 ∧ s.Figure (s.costOf (.skipEqReg x y 0) .notTaken) 55 ∧
    s.Figure (s.costOf (.skipNeReg x y 0) .taken) 64 ∧ s.Figure (s.costOf (.skipNeReg x y 0) .notTaken) 55

/-- 40_control_flow.md R88, from the word, for every word of the unmatched space: it executes as a no-op of cost 0; and a
step that fetches one advances pc by 2 and ends the burst. The step is the model's: the start of the tick is merged into
it (notes/assumptions/2.md, DESIGN CHOICE), and the end of the burst is its field for the accumulator at none
(notes/assumptions/3.md, DEDUCED). -/
def Obligations.UnmatchedWordIsNoOp : Prop :=
  ∀ (w : Word) (s : State), unmatchedWord w = true →
    decode w = .unmatched w ∧ exec (.unmatched w) s = .next { s with cost := some 0 } ∧
    (s.halt = none → s.pc.toNat + 1 ≤ 0xFFF → s.fetchWord = w →
      step s = .next { s.enterBurst with pc := s.pc + 2, cost := some 0, burst := none })

/-- 40_control_flow.md R80, R82 (source property S7): calls nested no deeper than the stack has room for, then as many
returns, restore pc and sp. -/
def Obligations.NestedCallsReturn : Prop :=
  ∀ (targets : List Addr12) (s : State), s.sp.val + targets.length ≤ 16 →
    ∃ t, execAll (targets.map .call ++ List.replicate targets.length .ret) s = some t ∧ t.pc = s.pc ∧ t.sp = s.sp

/-- What the instructions of 40_control_flow.md leave alone: everything but pc, the cost, and for call and return the
stack. -/
def Obligations.ControlFlowFrame : Prop :=
  ∀ (i : Instr) (s t : State),
    (i = .ret ∨ (∃ nnn, i = .jump nnn ∨ i = .call nnn ∨ i = .jumpV0 nnn) ∨
      (∃ x nn, i = .skipEqImm x nn ∨ i = .skipNeImm x nn) ∨
      (∃ x y n, i = .skipEqReg x y n ∨ i = .skipNeReg x y n) ∨ (∃ w, i = .unmatched w)) →
    exec i s = .next t →
    KeepsRegs [] s t ∧ KeepsMemory s t ∧ KeepsTimers s t ∧ KeepsDisplay s t ∧ KeepsSurroundings s t ∧
    t.i = s.i ∧ t.halt = s.halt ∧ t.draws = s.draws ∧ (i ≠ .ret → (∀ nnn, i ≠ .call nnn) → KeepsStack s t)

/-! ### Register ALU -/

/-- 41_alu.md R100, R101, R102: loads, add immediate (no flag) and copy. -/
def Obligations.LoadAddCopyResults : Prop :=
  ∀ (x y : Reg) (nn : Byte) (s : State),
    exec (.setImm x nn) s = .next { s with v := s.v.set x nn, cost := some (s.costOf (.setImm x nn) .done) } ∧
    exec (.addImm x nn) s = .next { s with
      v := s.v.set x (byteOf (((s.reg x).toNat + nn.toNat) % 256)), cost := some (s.costOf (.addImm x nn) .done) } ∧
    exec (.copy x y) s = .next { s with v := s.v.set x s.v[y], cost := some (s.costOf (.copy x y) .done) } ∧
    s.Figure (s.costOf (.setImm x nn) .done) 27 ∧ s.Figure (s.costOf (.addImm x nn) .done) 45 ∧
    s.costOf (.copy x y) .done ≥ 1 ∧ s.Figure (s.costOf (.copy x y) .done) s.config.costs.cost8XY0.toNat

/-- 41_alu.md R103, R104, R105: bit by bit; VF is not touched unless it is VX. -/
def Obligations.LogicResults : Prop :=
  ∀ (x y : Reg) (s : State), ∃ o a e : Byte,
    exec (.or x y) s = .next { s with v := s.v.set x o, cost := some (s.costOf (.or x y) .done) } ∧
    exec (.and x y) s = .next { s with v := s.v.set x a, cost := some (s.costOf (.and x y) .done) } ∧
    exec (.xor x y) s = .next { s with v := s.v.set x e, cost := some (s.costOf (.xor x y) .done) } ∧
    (∀ k, k < 8 → o.getLsbD k = ((s.reg x).getLsbD k || (s.reg y).getLsbD k) ∧
      a.getLsbD k = ((s.reg x).getLsbD k && (s.reg y).getLsbD k) ∧
      e.getLsbD k = ((s.reg x).getLsbD k ^^ (s.reg y).getLsbD k)) ∧
    s.Figure (s.costOf (.or x y) .done) 200 ∧ s.Figure (s.costOf (.and x y) .done) 200 ∧
    s.Figure (s.costOf (.xor x y) .done) 200

/-- 41_alu.md R106. -/
def Obligations.AddResultAndCarry : Prop :=
  ∀ (x y : Reg) (s : State),
    exec (.add x y) s = .next { s with
      v := s.withResultAndFlag x (byteOf (((s.reg x).toNat + (s.reg y).toNat) % 256))
        (if (s.reg x).toNat + (s.reg y).toNat > 255 then 1 else 0),
      cost := some (s.costOf (.add x y) .done) } ∧
    s.Figure (s.costOf (.add x y) .done) 200

/-- 41_alu.md R107, R109: the difference mod 256 and the strict no-borrow flag. -/
def Obligations.SubtractResultAndNoBorrow : Prop :=
  ∀ (x y : Reg) (s : State),
    exec (.sub x y) s = .next { s with
      v := s.withResultAndFlag x (byteOf ((256 + (s.reg x).toNat - (s.reg y).toNat) % 256))
        (if (s.reg x).toNat > (s.reg y).toNat then 1 else 0),
      cost := some (s.costOf (.sub x y) .done) } ∧
    exec (.subn x y) s = .next { s with
      v := s.withResultAndFlag x (byteOf ((256 + (s.reg y).toNat - (s.reg x).toNat) % 256))
        (if (s.reg y).toNat > (s.reg x).toNat then 1 else 0),
      cost := some (s.costOf (.subn x y) .done) } ∧
    s.Figure (s.costOf (.sub x y) .done) 200 ∧ s.Figure (s.costOf (.subn x y) .done) 200

/-- 41_alu.md R108, R110: VX in place, whatever Y is; the flag is the bit shifted out. -/
def Obligations.ShiftResultAndBitOut : Prop :=
  ∀ (x y : Reg) (s : State),
    exec (.shr x y) s = .next { s with
      v := s.withResultAndFlag x (byteOf ((s.reg x).toNat / 2)) (byteOf ((s.reg x).toNat % 2)),
      cost := some (s.costOf (.shr x 0) .done) } ∧
    exec (.shl x y) s = .next { s with
      v := s.withResultAndFlag x (byteOf ((s.reg x).toNat * 2 % 256)) (byteOf ((s.reg x).toNat / 128)),
      cost := some (s.costOf (.shl x 0) .done) } ∧
    s.Figure (s.costOf (.shr x 0) .done) 200 ∧ s.Figure (s.costOf (.shl x 0) .done) 200

/-- 41_alu.md R111, 10_state.md R24: VX is the byte drawn, masked; every bit outside NN is 0; the next draw is another.
The byte drawn is the free value `Config.randomByte` of notes/assumptions/7.md, about which nothing is assumed. -/
def Obligations.RandomIsMaskedFreeByte : Prop :=
  ∀ (x : Reg) (nn : Byte) (s : State), ∃ b : Byte,
    exec (.random x nn) s = .next { s with
      v := s.v.set x b, draws := s.draws + 1, cost := some (s.costOf (.random x nn) .done) } ∧
    (∀ k, k < 8 → b.getLsbD k = (nn.getLsbD k && (Config.randomByte s.draws).getLsbD k)) ∧
    (nn = 0 → b = 0) ∧ s.costOf (.random x nn) .done ≥ 1 ∧
    s.Figure (s.costOf (.random x nn) .done) s.config.costs.costCXNN.toNat

/-- 41_alu.md R112: with X other than F the order of the two writes is invisible; with X = F the flag survives when it
is written last and the result when that is. -/
def Obligations.FlagWriteOrder : Prop :=
  ∀ (i : Instr) (x : Reg) (s : State) (c c' : Config), aluWrites i = some [x, 15] →
    ∃ t t', exec i { s with config := { c with vfWriteOrder := .flagLast } } = .next t ∧
      exec i { s with config := { c' with vfWriteOrder := .resultLast } } = .next t' ∧
      (x ≠ 15 → t'.v = t.v) ∧ (t.reg 15).toNat ≤ 1 ∧ (∀ r : Reg, r ≠ 15 → t'.reg r = t.reg r) ∧
      (x = 15 → ∀ y, i = .add x y → t'.reg 15 = byteOf ((s.reg 15).toNat + (s.reg y).toNat))

/-- 41_alu.md R114: each instruction writes only VX, and VF where its rule says so. -/
def Obligations.AluFrame : Prop :=
  ∀ (i : Instr) (written : List Reg) (s t : State), aluWrites i = some written → exec i s = .next t →
    KeepsRegs written s t ∧ t.i = s.i ∧ t.pc = s.pc ∧ KeepsStack s t ∧ KeepsTimers s t ∧ KeepsMemory s t ∧
    KeepsDisplay s t ∧ KeepsSurroundings s t ∧ t.halt = s.halt

/-- 10_state.md R12: VF changes only as the flag of 8XY4/5/6/7/E, with a value 0 or 1, or as a named destination, or,
with COLLISION_TO_VF, by DXYN. -/
def Obligations.VfWritersAreExactly : Prop :=
  ∀ (i : Instr) (s t : State), exec i s = .next t →
    (t.reg 15 ≠ s.reg 15 → writesFlag i = true ∨ namesVfAsDestination i = true ∨
      (∃ x y n, i = .draw x y n) ∧ s.config.collisionToVf = true) ∧
    (writesFlag i = true → namesVfAsDestination i = false → t.reg 15 = 0 ∨ t.reg 15 = 1)

/-! ### Index register and memory -/

/-- 42_index_memory.md R120, R121, R122. -/
def Obligations.IndexRegisterResults : Prop :=
  ∀ (x : Reg) (nnn : Addr12) (s : State),
    exec (.setIndex nnn) s = .next { s with i := wordOf nnn.toNat, cost := some (s.costOf (.setIndex nnn) .done) } ∧
    exec (.addIndex x) s = .next { s with
      i := wordOf ((s.i.toNat + (s.reg x).toNat) % 65536), cost := some (s.costOf (.addIndex x) .done) } ∧
    exec (.fontIndex x) s = .next { s with
      i := wordOf (0x0000 + (s.reg x).toNat), cost := some (s.costOf (.fontIndex x) .done) } ∧
    s.costOf (.setIndex nnn) .done ≥ 1 ∧ s.Figure (s.costOf (.setIndex nnn) .done) s.config.costs.costANNN.toNat ∧
    s.costOf (.addIndex x) .done ≥ 1 ∧ s.Figure (s.costOf (.addIndex x) .done) s.config.costs.costFX1E.toNat ∧
    s.costOf (.fontIndex x) .done ≥ 1 ∧ s.Figure (s.costOf (.fontIndex x) .done) s.config.costs.costFX29.toNat

/-- 42_index_memory.md R123: the digits are stored, no other byte and nothing else changes; out of range it faults and
stores nothing. -/
def Obligations.BcdStoresDigits : Prop :=
  ∀ (x : Reg) (s : State), s.mem.wf →
    (s.i.toNat + 2 ≤ 0xFFF → ∃ t, exec (.bcd x) s = .next t ∧
      t = { s with mem := t.mem, cost := some (s.costOf (.bcd x) .done) } ∧ t.mem.wf ∧
      (t.byteAt s.i.toNat).toNat = (s.reg x).toNat / 100 ∧
      (t.byteAt (s.i.toNat + 1)).toNat = (s.reg x).toNat / 10 % 10 ∧
      (t.byteAt (s.i.toNat + 2)).toNat = (s.reg x).toNat % 10 ∧
      KeepsMemoryOutside s.i.toNat 3 s t) ∧
    (s.i.toNat + 2 > 0xFFF → exec (.bcd x) s = .next (s.afterDataFault .store)) ∧
    s.Figure (s.costOf (.bcd x) .done) 927

/-- 42_index_memory.md R124. -/
def Obligations.StoreWritesRegisters : Prop :=
  ∀ (x : Reg) (s : State), s.mem.wf →
    (s.i.toNat + x.val ≤ 0xFFF → ∃ t, exec (.store x) s = .next t ∧
      t = { s with mem := t.mem, cost := some (s.costOf (.store x) .done) } ∧ t.mem.wf ∧
      (∀ k : Reg, k ≤ x → t.byteAt (s.i.toNat + k.val) = s.reg k) ∧
      KeepsMemoryOutside s.i.toNat (x.val + 1) s t ∧ s.Figure (s.costOf (.store x) .done) (605 + 64 * x.val)) ∧
    (s.i.toNat + x.val > 0xFFF → exec (.store x) s = .next (s.afterDataFault .store))

/-- 42_index_memory.md R125. -/
def Obligations.LoadReadsRegisters : Prop :=
  ∀ (x : Reg) (s : State),
    (s.i.toNat + x.val ≤ 0xFFF → ∃ t, exec (.load x) s = .next t ∧
      t = { s with v := t.v, cost := some (s.costOf (.load x) .done) } ∧
      (∀ k : Reg, t.reg k = if k ≤ x then s.byteAt (s.i.toNat + k.val) else s.reg k) ∧
      s.Figure (s.costOf (.load x) .done) (605 + 64 * x.val)) ∧
    (s.i.toNat + x.val > 0xFFF → exec (.load x) s = .next (s.afterDataFault .load))

/-- 42_index_memory.md R124, R125 (source property S5): FX55, then any change of the registers, then FX65 brings V0..VX
back exactly. -/
def Obligations.StoreThenLoadRoundTrips : Prop :=
  ∀ (x : Reg) (s : State) (v : Vector Byte 16), s.mem.wf → s.i.toNat + x.val ≤ 0xFFF →
    ∃ t u, exec (.store x) s = .next t ∧ exec (.load x) { t with v := v } = .next u ∧
      (∀ k : Reg, u.reg k = if k ≤ x then s.reg k else v[k]) ∧ u.i = s.i

/-- 42_index_memory.md R127 with 20_memory.md R43: what index and memory instructions leave alone. FX33 and FX55 store
at `I`, three and X + 1 bytes, or nothing when they fault. -/
def Obligations.IndexMemoryFrame : Prop :=
  ∀ (x : Reg) (nnn : Addr12) (i : Instr) (s t : State), exec i s = .next t →
    (i = .setIndex nnn ∨ i = .addIndex x ∨ i = .fontIndex x ∨ i = .bcd x ∨ i = .store x ∨ i = .load x) →
    t.pc = s.pc ∧ KeepsStack s t ∧ KeepsTimers s t ∧ KeepsDisplay s t ∧ KeepsSurroundings s t ∧ t.draws = s.draws ∧
    (i = .load x → KeepsRegs ((List.finRange 16).filter (· ≤ x)) s t) ∧ (i ≠ .load x → KeepsRegs [] s t) ∧
    (i = .bcd x ∨ i = .store x ∨ i = .load x → t.i = s.i) ∧
    (i ≠ .bcd x → i ≠ .store x → i ≠ .load x → t.halt = s.halt) ∧
    (i = .bcd x → KeepsMemoryOutside s.i.toNat 3 s t) ∧
    (i = .store x → KeepsMemoryOutside s.i.toNat (x.val + 1) s t) ∧
    (i ≠ .bcd x → i ≠ .store x → KeepsMemory s t) ∧
    (t.halt ≠ s.halt → KeepsMemory s t ∧ KeepsRegs [] s t)

/-- 20_memory.md R57, R47: a program that stores over the next instruction fetches what it stored, the lower-numbered
register being the high byte. -/
def Obligations.StoredCodeIsFetched : Prop :=
  ∀ (x : Reg) (s : State), s.mem.wf → 1 ≤ x.val → s.i = s.pc → s.i.toNat + x.val ≤ 0xFFF →
    ∃ t, exec (.store x) s = .next t ∧ t.pc = s.pc ∧
      t.fetchWord.toNat = (s.reg 0).toNat * 256 + (s.reg 1).toNat

/-! ### Display -/

/-- 43_display_blit.md R149. -/
def Obligations.ClearUnsetsEveryCell : Prop :=
  ∀ s : State, ∃ t, exec .cls s = .next t ∧
    t = { s with grid := t.grid, dirty := true, cost := some (s.costOf .cls .done) } ∧
    (∀ x y, t.grid.cell x y = false) ∧
    s.costOf .cls .done ≥ 1 ∧ s.Figure (s.costOf .cls .done) s.config.costs.cost00E0.toNat

/-- 43_display_blit.md R147: the loop of the engine equals its closed form, cell by cell, and the collision bit is
raised iff a set cell lies under a set sprite bit. -/
def Obligations.BlitIsItsClosedForm : Prop :=
  ∀ (x0 y0 : Nat) (rows : List Byte) (g : Grid),
    (∀ x y, x < 64 → y < 32 → (blit x0 y0 rows g).1.cell x y =
      (g.cell x y ^^ spriteBit x0 y0 rows.length (fun r => rows.getD r 0) x y)) ∧
    ((blit x0 y0 rows g).2 = true ↔ ∃ x y, x < 64 ∧ y < 32 ∧ g.cell x y = true ∧
      spriteBit x0 y0 rows.length (fun r => rows.getD r 0) x y = true)

/-- 43_display_blit.md R150 with R142 to R146: in range, every cell becomes itself exclusive-or the sprite's bit over
it, dirty is set, VF is not written unless COLLISION_TO_VF, and nothing else changes; out of range it faults and draws
nothing. N = 0 is never out of range. -/
def Obligations.DrawXorsTheSprite : Prop :=
  ∀ (x y : Reg) (n : Nibble) (s : State),
    (n.val = 0 ∨ s.i.toNat + n.val - 1 ≤ 0xFFF → ∃ t, exec (.draw x y n) s = .next t ∧
      t = { s with grid := t.grid, dirty := true, v := t.v, cost := some (s.costOf (.draw x y n) .done) } ∧
      (∀ cx cy, cx < 64 → cy < 32 → t.grid.cell cx cy = (s.grid.cell cx cy ^^ s.drawBit x y n cx cy)) ∧
      (s.config.collisionToVf = false → t.v = s.v) ∧
      (s.config.collisionToVf = true → KeepsRegs [15] s t ∧ (t.reg 15 = 0 ∨ t.reg 15 = 1) ∧
        (t.reg 15 = 1 ↔ ∃ cx cy, cx < 64 ∧ cy < 32 ∧ s.grid.cell cx cy = true ∧ s.drawBit x y n cx cy = true))) ∧
    (n.val ≥ 1 → s.i.toNat + n.val - 1 > 0xFFF → exec (.draw x y n) s = .next (s.afterDataFault .load)) ∧
    s.Figure (s.costOf (.draw x y n) .done) 22734

/-- 43_display_blit.md section 1, the property marked derived there: two identical draws in a row restore the grid. -/
def Obligations.DrawTwiceRestoresGrid : Prop :=
  ∀ (x y : Reg) (n : Nibble) (s : State), s.config.collisionToVf = false →
    (n.val = 0 ∨ s.i.toNat + n.val - 1 ≤ 0xFFF) →
    ∃ t u, exec (.draw x y n) s = .next t ∧ exec (.draw x y n) t = .next u ∧ u.grid = s.grid ∧ u.dirty = true

/-- 43_display_blit.md section 1, the property marked derived there: blits commute. -/
def Obligations.BlitsCommute : Prop :=
  ∀ (x0 y0 x1 y1 : Nat) (rows rows' : List Byte) (g : Grid),
    (blit x1 y1 rows' (blit x0 y0 rows g).1).1 = (blit x0 y0 rows (blit x1 y1 rows' g).1).1

/-- 43_display_blit.md R151: every completed DXYN and every 00E0 ends with dirty set; no other instruction writes dirty;
the hardware never clears it. -/
def Obligations.DirtyIsSetByDrawingOnly : Prop :=
  ∀ (i : Instr) (s t : State), exec i s = .next t →
    (i = .cls → t.dirty = true) ∧
    ((∃ x y n, i = .draw x y n) → t.halt = s.halt → t.cost ≠ none → t.dirty = true) ∧
    (t.dirty ≠ s.dirty → i = .cls ∨ ∃ x y n, i = .draw x y n) ∧ (s.dirty = true → t.dirty = true)

/-- 43_display_blit.md R152: 00E0 and DXYN change only the grid and dirty, and VF under COLLISION_TO_VF. -/
def Obligations.DisplayFrame : Prop :=
  ∀ (i : Instr) (s t : State), (i = .cls ∨ ∃ x y n, i = .draw x y n) → exec i s = .next t →
    KeepsRegs (if s.config.collisionToVf = true then [15] else []) s t ∧ t.i = s.i ∧ t.pc = s.pc ∧ KeepsMemory s t ∧
    KeepsStack s t ∧ KeepsTimers s t ∧ KeepsSurroundings s t ∧ t.draws = s.draws ∧
    (i = .cls → KeepsRegs [] s t ∧ t.halt = s.halt)

/-! ### Timers and keys -/

/-- 44_timers_keys.md R160, R161, R162. -/
def Obligations.TimerMoves : Prop :=
  ∀ (x : Reg) (s : State),
    exec (.readDelay x) s = .next { s with v := s.v.set x s.dt, cost := some (s.costOf (.readDelay x) .done) } ∧
    exec (.setDelay x) s = .next { s with dt := s.v[x], cost := some (s.costOf (.setDelay x) .done) } ∧
    exec (.setSound x) s = .next { s with st := s.v[x], cost := some (s.costOf (.setSound x) .done) } ∧
    s.costOf (.readDelay x) .done ≥ 1 ∧ s.Figure (s.costOf (.readDelay x) .done) s.config.costs.costFX07.toNat ∧
    s.costOf (.setDelay x) .done ≥ 1 ∧ s.Figure (s.costOf (.setDelay x) .done) s.config.costs.costFX15.toNat ∧
    s.costOf (.setSound x) .done ≥ 1 ∧ s.Figure (s.costOf (.setSound x) .done) s.config.costs.costFX18.toNat

/-- 44_timers_keys.md R163, R164: a register above 15 names no key and counts as not down. -/
def Obligations.KeySkipsPollTheKey : Prop :=
  ∀ (x : Reg) (s : State) (down : Bool),
    (down = true ↔ (s.reg x).toNat ≤ 15 ∧ s.keysDown.getLsbD (s.reg x).toNat = true) →
    exec (.skipKey x) s = .next { s with
      pc := if down then wordOf ((s.pc.toNat + 2) % 65536) else s.pc,
      cost := some (s.costOf (.skipKey x) (if down then .taken else .notTaken)) } ∧
    exec (.skipNoKey x) s = .next { s with
      pc := if down then s.pc else wordOf ((s.pc.toNat + 2) % 65536),
      cost := some (s.costOf (.skipNoKey x) (if down then .notTaken else .taken)) } ∧
    s.Figure (s.costOf (.skipKey x) .taken) 64 ∧ s.Figure (s.costOf (.skipKey x) .notTaken) 55 ∧
    s.Figure (s.costOf (.skipNoKey x) .taken) 64 ∧ s.Figure (s.costOf (.skipNoKey x) .notTaken) 55

/-- 44_timers_keys.md R165: the lowest released key, or pc back by 2 with cost 0. -/
def Obligations.WaitKeyTakesLowestRelease : Prop :=
  ∀ (x : Reg) (s : State),
    (∀ k : Fin 16, s.keysReleased.getLsbD k.val = true → (∀ j : Fin 16, j < k → s.keysReleased.getLsbD j.val = false) →
      exec (.waitKey x) s = .next { s with v := s.v.set x (byteOf k.val), cost := some (s.costOf (.waitKey x) .done) }) ∧
    ((∀ k : Fin 16, s.keysReleased.getLsbD k.val = false) →
      exec (.waitKey x) s = .next { s with pc := wordOf ((s.pc.toNat + 65536 - 2) % 65536), cost := some 0 }) ∧
    s.Figure (s.costOf (.waitKey x) .done) 1

/-- 44_timers_keys.md R167. -/
def Obligations.TimersKeysFrame : Prop :=
  ∀ (x : Reg) (i : Instr) (s t : State), exec i s = .next t →
    (i = .readDelay x ∨ i = .waitKey x ∨ i = .setDelay x ∨ i = .setSound x ∨ i = .skipKey x ∨ i = .skipNoKey x) →
    t.i = s.i ∧ KeepsMemory s t ∧ KeepsStack s t ∧ KeepsDisplay s t ∧ KeepsSurroundings s t ∧ t.halt = s.halt ∧
    t.draws = s.draws ∧ (i = .readDelay x ∨ i = .waitKey x → KeepsRegs [x] s t) ∧
    (i ≠ .readDelay x → i ≠ .waitKey x → KeepsRegs [] s t) ∧ (i ≠ .setDelay x → t.dt = s.dt) ∧
    (i ≠ .setSound x → t.st = s.st) ∧
    (i ≠ .waitKey x → i ≠ .skipKey x → i ≠ .skipNoKey x → t.pc = s.pc)

/-! ### Whole machine -/

/-- 10_state.md section 1, the column "written by" of the table of state: no instruction changes a piece of state that
the table does not list it as a writer of; DXYN writes VF only, and only under COLLISION_TO_VF. -/
def Obligations.OnlyTabledWritersWrite : Prop :=
  ∀ (i : Instr) (s t : State), exec i s = .next t →
    (t.mem ≠ s.mem → ∃ x, i = .bcd x ∨ i = .store x) ∧
    (t.v ≠ s.v → (∃ x nn, i = .setImm x nn ∨ i = .addImm x nn ∨ i = .random x nn) ∨
      (∃ x y, i = .copy x y ∨ i = .or x y ∨ i = .and x y ∨ i = .xor x y ∨ i = .add x y ∨ i = .sub x y ∨ i = .shr x y ∨
        i = .subn x y ∨ i = .shl x y) ∨
      (∃ x, i = .readDelay x ∨ i = .waitKey x ∨ i = .load x) ∨
      (∃ x y n, i = .draw x y n) ∧ s.config.collisionToVf = true ∧ KeepsRegs [15] s t) ∧
    (t.pc ≠ s.pc → i = .ret ∨ (∃ nnn, i = .jump nnn ∨ i = .call nnn ∨ i = .jumpV0 nnn) ∨
      (∃ x nn, i = .skipEqImm x nn ∨ i = .skipNeImm x nn) ∨ (∃ x y n, i = .skipEqReg x y n ∨ i = .skipNeReg x y n) ∨
      ∃ x, i = .skipKey x ∨ i = .skipNoKey x ∨ i = .waitKey x) ∧
    (t.dirty ≠ s.dirty → i = .cls ∨ ∃ x y n, i = .draw x y n) ∧
    (t.i ≠ s.i → ∃ x nnn, i = .setIndex nnn ∨ i = .addIndex x ∨ i = .fontIndex x) ∧
    (t.stack ≠ s.stack → ∃ nnn, i = .call nnn) ∧ (t.sp ≠ s.sp → i = .ret ∨ ∃ nnn, i = .call nnn) ∧
    (t.dt ≠ s.dt → ∃ x, i = .setDelay x) ∧ (t.st ≠ s.st → ∃ x, i = .setSound x) ∧
    (t.grid ≠ s.grid → i = .cls ∨ ∃ x y n, i = .draw x y n) ∧
    (t.halt ≠ s.halt → ∃ x y n, i = .draw x y n ∨ i = .load x ∨ i = .bcd x ∨ i = .store x) ∧
    KeepsSurroundings s t

/-- 46_step_and_tick.md R183: the only outcomes of cost zero are an unmatched word and an unresolved FX0A. -/
def Obligations.OnlyTwoOutcomesCostZero : Prop :=
  ∀ (i : Instr) (s t : State), s.halt = none → exec i s = .next t →
    (t.cost = some 0 ↔ (∃ w, i = .unmatched w) ∨ ∃ x, i = .waitKey x ∧ s.keysReleased = 0)

/-- 46_step_and_tick.md R182: the cost table, for every value of the nine open costs; a faulting step reports none. -/
def Obligations.CostTableOfRule182 : Prop :=
  ∀ (i : Instr) (s t : State), GivenFigures s.config.costs → s.halt = none → exec i s = .next t →
    t.cost = if t.halt = none then some (figureOf i s) else none

/-- 46_step_and_tick.md R184, R185, with the model's placing of the host before the decay (notes/assumptions/2.md, 8.md;
DESIGN CHOICE): a step that finds no burst in progress first lowers both timers by one, floored at 0,
then lets the audio port follow the lowered sound timer, and starts the accumulator at 0; a step inside a burst does
none of this. -/
def Obligations.TickStartDecaysTogglesAudio : Prop :=
  ∀ s : State,
    (s.burst = none → s.enterBurst.dt.toNat = (if s.dt.toNat > 0 then s.dt.toNat - 1 else 0) ∧
      s.enterBurst.st.toNat = (if s.st.toNat > 0 then s.st.toNat - 1 else 0) ∧
      (s.enterBurst.audioPlaying = true ↔ s.enterBurst.st.toNat ≠ 0) ∧ s.enterBurst.burst = some 0 ∧
      s.enterBurst = { s with
        dt := s.enterBurst.dt, st := s.enterBurst.st, audioPlaying := s.enterBurst.audioPlaying, burst := some 0,
        keysDown := s.nextFrame.keysDown, keysReleased := s.nextFrame.keysReleased,
        dirty := s.dirty && !s.nextFrame.clearDirty, frames := s.frames.tail, ticks := s.ticks + 1 }) ∧
    (∀ acc, s.burst = some acc → s.enterBurst = s)

/-- 46_step_and_tick.md R186, on the model's field for the accumulator (notes/assumptions/3.md, DEDUCED) and its step, which
opens the burst it finds missing and does the accounting (notes/assumptions/2.md, DESIGN CHOICE): the accumulator grows
by the cost; the burst ends at the budget, at cost 0, or at a fault; nothing is carried over. -/
def Obligations.BurstAccounting : Prop :=
  ∀ s t : State, s.halt = none → step s = .next t →
    (∀ r, t.halt = some r → t.burst = none) ∧
    (∀ c, t.cost = some c →
      t.burst = if s.burst.getD 0 + c ≥ 16666 ∨ c = 0 then none else some (s.burst.getD 0 + c))

/-- 10_state.md R17, 46_step_and_tick.md R184: DT and ST are lowered only at the start of a tick, once, never below 0; DT
is written otherwise only by FX15 and ST only by FX18. That a step which finds no burst in progress holds the start of
the tick, which R180's Step does not, is the model's placing (notes/assumptions/2.md, DESIGN CHOICE). -/
def Obligations.TimersChangeOnlyByTickOrWrite : Prop :=
  ∀ s t : State, s.halt = none → step s = .next t →
    (∀ x, s.pc.toNat + 1 ≤ 0xFFF → decode s.fetchWord = .setDelay x → t.dt = s.reg x) ∧
    ((s.pc.toNat + 1 > 0xFFF ∨ ∀ x, decode s.fetchWord ≠ .setDelay x) →
      t.dt.toNat = if s.burst = none then s.dt.toNat - 1 else s.dt.toNat) ∧
    (∀ x, s.pc.toNat + 1 ≤ 0xFFF → decode s.fetchWord = .setSound x → t.st = s.reg x) ∧
    ((s.pc.toNat + 1 > 0xFFF ∨ ∀ x, decode s.fetchWord ≠ .setSound x) →
      t.st.toNat = if s.burst = none then s.st.toNat - 1 else s.st.toNat)

/-- 10_state.md R25, 46_step_and_tick.md R185: the audio port changes only at the start of a tick, to whether the lowered
sound timer is nonzero. That a step which finds no burst in progress holds the start of the tick, which R180's Step does
not, is the model's placing (notes/assumptions/2.md, DESIGN CHOICE). -/
def Obligations.AudioChangesOnlyAtTick : Prop :=
  ∀ s t : State, step s = .next t →
    t.audioPlaying = if s.halt = none ∧ s.burst = none then decide (s.st.toNat - 1 ≠ 0) else s.audioPlaying

/-- 10_state.md R22, R23 and 00_scope.md R5, with the host of notes/assumptions/8.md and 9.md and the tick start
in the step of 2.md (DESIGN CHOICE): the key ports are constant within a tick and change, with the frame the host
presents, only at its start, where alone dirty can be cleared; no step writes the configuration. -/
def Obligations.PortsAndConfigurationHold : Prop :=
  ∀ s t : State, step s = .next t →
    t.config = s.config ∧
    t.keysDown = (if s.halt = none ∧ s.burst = none then s.nextFrame.keysDown else s.keysDown) ∧
    t.keysReleased = (if s.halt = none ∧ s.burst = none then s.nextFrame.keysReleased else s.keysReleased) ∧
    (s.dirty = true → t.dirty = false → s.halt = none ∧ s.burst = none ∧ s.nextFrame.clearDirty = true)

/-- 46_step_and_tick.md R186, R187: from between ticks, a tick is the same as stepping the machine until the burst ends,
which takes at least 1 and at most 16666 steps, none of which but the last ends the burst or halts. It is the model's
`step`, which holds the start of the tick and the accounting (notes/assumptions/2.md, DESIGN CHOICE), that is run. -/
def Obligations.TickIsTheBurstOfSteps : Prop :=
  ∀ s : State, s.halt = none → s.burst = none →
    ∃ n t, 1 ≤ n ∧ n ≤ 16666 ∧ tick s = .next t ∧ core.run n s = .next t ∧ t.burst = none ∧
      ∀ m u, 1 ≤ m → m < n → core.run m s = .next u → u.burst ≠ none ∧ u.halt = none

/-! ### Reset, boot, invariant -/

/-- 70_reset_and_hazards.md R220: every piece of state of the table of 10_state.md R10 after reset, and that no step
leaves the halted state. -/
def Obligations.ResetValues : Prop :=
  (∀ a, State.reset.byteAt a = 0) ∧ (∀ r, State.reset.reg r = 0) ∧ State.reset.i = 0 ∧ State.reset.pc = 0x200 ∧
  (∀ k : Fin 16, State.reset.stack[k] = 0) ∧ State.reset.sp = 0 ∧ State.reset.dt = 0 ∧ State.reset.st = 0 ∧
  (∀ x y, State.reset.grid.cell x y = false) ∧ State.reset.dirty = false ∧ State.reset.audioPlaying = false ∧
  State.reset.halt = none ∧ (∀ s t : State, s.halt.isSome = true → step s = .next t → t.halt = s.halt)

/-- 10_state.md R30 with 20_memory.md R53: after reset and the boot load memory holds the font, the image and zeros; a
longer image is refused. -/
def Obligations.BootLoadsFontAndImage : Prop :=
  ∀ (config : Config) (image : List Byte),
    (image.length ≤ 3584 → ∃ t, State.launch config image = some t ∧
      t = { State.reset with config := config, mem := t.mem } ∧ t.mem.wf ∧
      (∀ a : Fin 80, t.byteAt a.val = config.font[a]) ∧
      (∀ k : Fin image.length, t.byteAt (0x200 + k.val) = image[k]) ∧
      (∀ a, (80 ≤ a ∧ a < 0x200) ∨ 0x200 + image.length ≤ a → t.byteAt a = 0)) ∧
    (image.length > 3584 → State.launch config image = none)

/-- The invariant holds after reset. -/
def Obligations.ResetMeetsInvariant : Prop := State.reset.Inv

/-- Every step from a state that meets the invariant answers a state that meets it. -/
def Obligations.StepKeepsInvariant : Prop :=
  ∀ s t : State, s.Inv → step s = .next t → t.Inv
end

