-- ==== Sys2Proof/Laws/Decode.lean ====
section
/-! SUPPORT. The fields of a word put together from its parts are those parts, and a word is put together from its fields
(30_encoding.md R62, R63). -/

namespace Sys2Proof

theorem fieldG_val (w : Word) : (fieldG w).val = w.toNat / 4096 := by
  have := w.isLt
  simp [fieldG, Nat.shiftRight_eq_div_pow]
  omega

theorem fieldX_val (w : Word) : (fieldX w).val = w.toNat / 256 % 16 := by
  simp [fieldX, Nat.shiftRight_eq_div_pow]

theorem fieldY_val (w : Word) : (fieldY w).val = w.toNat / 16 % 16 := by
  simp [fieldY, Nat.shiftRight_eq_div_pow]

theorem fieldN_val (w : Word) : (fieldN w).val = w.toNat % 16 := by
  simp [fieldN]

theorem fieldNN_toNat (w : Word) : (fieldNN w).toNat = w.toNat % 256 := by
  simp [fieldNN]

theorem fieldNNN_toNat (w : Word) : (fieldNNN w).toNat = w.toNat % 4096 := by
  simp [fieldNNN]

theorem bits4_toNat (k : Fin 16) : (bits4 k).toNat = k.val := rfl

/-- Concatenation as arithmetic: the high part times the weight of the low part, plus the low part. -/
theorem append_toNat {m n : Nat} (a : BitVec m) (b : BitVec n) : (a ++ b).toNat = a.toNat * 2 ^ n + b.toNat := by
  rw [BitVec.toNat_append, ← Nat.shiftLeft_add_eq_or_of_lt b.isLt, Nat.shiftLeft_eq]

theorem wordXYN_toNat (g : BitVec 4) (x y : Reg) (n : BitVec 4) :
    (wordXYN g x y n).toNat = g.toNat * 4096 + x.val * 256 + y.val * 16 + n.toNat := by
  simp only [wordXYN, append_toNat, bits4_toNat]
  omega

theorem wordXNN_toNat (g : BitVec 4) (x : Reg) (nn : Byte) :
    (wordXNN g x nn).toNat = g.toNat * 4096 + x.val * 256 + nn.toNat := by
  simp only [wordXNN, append_toNat, bits4_toNat]
  omega

theorem wordNNN_toNat (g : BitVec 4) (nnn : Addr12) : (wordNNN g nnn).toNat = g.toNat * 4096 + nnn.toNat := by
  simp only [wordNNN, append_toNat]
  omega

/-! ### The fields of each format -/

section
variable (g n : BitVec 4) (x y : Reg) (nn : Byte) (nnn : Addr12)

@[simp] theorem fieldG_wordXYN : (fieldG (wordXYN g x y n)).val = g.toNat := by
  rw [fieldG_val, wordXYN_toNat]; have := g.isLt; have := n.isLt; have := x.isLt; have := y.isLt; omega
@[simp] theorem fieldX_wordXYN : fieldX (wordXYN g x y n) = x := by
  apply Fin.ext; rw [fieldX_val, wordXYN_toNat]; have := g.isLt; have := n.isLt; have := x.isLt; have := y.isLt; omega
@[simp] theorem fieldY_wordXYN : fieldY (wordXYN g x y n) = y := by
  apply Fin.ext; rw [fieldY_val, wordXYN_toNat]; have := g.isLt; have := n.isLt; have := x.isLt; have := y.isLt; omega
@[simp] theorem fieldN_wordXYN : (fieldN (wordXYN g x y n)).val = n.toNat := by
  rw [fieldN_val, wordXYN_toNat]; have := g.isLt; have := n.isLt; have := x.isLt; have := y.isLt; omega
@[simp] theorem fieldG_wordXNN : (fieldG (wordXNN g x nn)).val = g.toNat := by
  rw [fieldG_val, wordXNN_toNat]; have := g.isLt; have := nn.isLt; have := x.isLt; omega
@[simp] theorem fieldX_wordXNN : fieldX (wordXNN g x nn) = x := by
  apply Fin.ext; rw [fieldX_val, wordXNN_toNat]; have := g.isLt; have := nn.isLt; have := x.isLt; omega
@[simp] theorem fieldNN_wordXNN : fieldNN (wordXNN g x nn) = nn := by
  apply BitVec.eq_of_toNat_eq; rw [fieldNN_toNat, wordXNN_toNat]; have := nn.isLt; omega
@[simp] theorem fieldG_wordNNN : (fieldG (wordNNN g nnn)).val = g.toNat := by
  rw [fieldG_val, wordNNN_toNat]; have := g.isLt; have := nnn.isLt; omega
@[simp] theorem fieldNNN_wordNNN : fieldNNN (wordNNN g nnn) = nnn := by
  apply BitVec.eq_of_toNat_eq; rw [fieldNNN_toNat, wordNNN_toNat]; have := nnn.isLt; omega
end

/-! ### The masks of R73 -/

/-- A word under mask 0xF000 is its group alone. -/
theorem mask_F000 (w : Word) : (w &&& 0xF000).toNat = (fieldG w).val * 4096 := by
  have h : w &&& 0xF000 = w.extractLsb' 12 4 ++ (0 : BitVec 12) := by
    apply BitVec.eq_of_getLsbD_eq
    intro i hi
    interval_cases i <;> simp only [BitVec.getLsbD_and, BitVec.getLsbD_append, BitVec.getLsbD_extractLsb'] <;> simp
  have := w.isLt
  rw [h, append_toNat, fieldG_val]
  simp [Nat.shiftRight_eq_div_pow]
  omega

/-- A word under mask 0xF00F is its group and `N`. -/
theorem mask_F00F (w : Word) : (w &&& 0xF00F).toNat = (fieldG w).val * 4096 + (fieldN w).val := by
  have h : w &&& 0xF00F = w.extractLsb' 12 4 ++ (0 : BitVec 8) ++ w.extractLsb' 0 4 := by
    apply BitVec.eq_of_getLsbD_eq
    intro i hi
    interval_cases i <;> simp only [BitVec.getLsbD_and, BitVec.getLsbD_append, BitVec.getLsbD_extractLsb'] <;> simp
  have := w.isLt
  rw [h, append_toNat, append_toNat, fieldG_val, fieldN_val]
  simp [Nat.shiftRight_eq_div_pow]
  omega

/-- A word under mask 0xF0FF is its group and `NN`. -/
theorem mask_F0FF (w : Word) : (w &&& 0xF0FF).toNat = (fieldG w).val * 4096 + (fieldNN w).toNat := by
  have h : w &&& 0xF0FF = w.extractLsb' 12 4 ++ (0 : BitVec 4) ++ w.extractLsb' 0 8 := by
    apply BitVec.eq_of_getLsbD_eq
    intro i hi
    interval_cases i <;> simp only [BitVec.getLsbD_and, BitVec.getLsbD_append, BitVec.getLsbD_extractLsb'] <;> simp
  have := w.isLt
  rw [h, append_toNat, append_toNat, fieldG_val, fieldNN_toNat]
  simp [Nat.shiftRight_eq_div_pow]
  omega

/-- A row of mask 0xF000 accepts exactly the words of its group. -/
theorem accepts_group (m : String) (p w : Word) : (OpcodeRow.mk m p 0xF000).accepts w = true ↔ p.toNat = (fieldG w).val * 4096 := by
  simp only [OpcodeRow.accepts, beq_iff_eq, ← BitVec.toNat_inj, mask_F000]
  exact eq_comm

/-- A row of mask 0xF00F accepts exactly the words of its group and `N`. -/
theorem accepts_groupN (m : String) (p w : Word) :
    (OpcodeRow.mk m p 0xF00F).accepts w = true ↔ p.toNat = (fieldG w).val * 4096 + (fieldN w).val := by
  simp only [OpcodeRow.accepts, beq_iff_eq, ← BitVec.toNat_inj, mask_F00F]
  exact eq_comm

/-- A row of mask 0xF0FF accepts exactly the words of its group and `NN`. -/
theorem accepts_groupNN (m : String) (p w : Word) :
    (OpcodeRow.mk m p 0xF0FF).accepts w = true ↔ p.toNat = (fieldG w).val * 4096 + (fieldNN w).toNat := by
  simp only [OpcodeRow.accepts, beq_iff_eq, ← BitVec.toNat_inj, mask_F0FF]
  exact eq_comm

/-! ### Bytes (20_memory.md R46) -/

/-- The two bytes of a word, high first, put together again. -/
theorem word_of_bytes (w : Word) : (w.extractLsb' 8 8 ++ w.extractLsb' 0 8 : Word) = w := by
  apply BitVec.eq_of_toNat_eq
  have := w.isLt
  simp only [append_toNat, BitVec.extractLsb'_toNat, Nat.shiftRight_eq_div_pow]
  omega

/-- What the byte decoder reads from the two bytes of a word is what the word decodes to. -/
theorem decodeBytes_of_word (w : Word) (rest : List Byte) :
    decodeBytes (w.extractLsb' 8 8 :: w.extractLsb' 0 8 :: rest) = .ok (decode w, rest) := by
  rw [decodeBytes, word_of_bytes]

end Sys2Proof
end

