-- ==== Sys2Proof/Laws/Memory.lean ====
section
/-! SUPPORT. Memory: a store is read back, leaves every other byte alone, keeps the canonical form and stays inside the
addresses it is given. -/

namespace Sys2Proof.Machine

theorem Memory.nil_wf : Memory.wf [] := ⟨.nil, by simp⟩

theorem Memory.wf_tail {c : Host.Cell} {m : Memory} (h : Memory.wf (c :: m)) : Memory.wf m :=
  ⟨h.1.tail, fun d hd => h.2 d (List.mem_cons_of_mem c hd)⟩

/-- An address below every listed one reads as blank. -/
theorem Memory.read_of_forall_ne {m : Memory} {a : Nat} (h : ∀ c ∈ m, c.1 ≠ a) : m.read a = Memory.blank := by
  induction m with
  | nil => rfl
  | cons c m ih =>
    simp only [List.mem_cons, forall_eq_or_imp] at h
    simp only [Memory.read, if_neg h.1, ih h.2]

theorem Memory.read_put_other (m : Memory) {a b : Nat} (v : Byte) (h : a ≠ b) :
    (Memory.put m a v).read b = m.read b := by
  unfold Memory.put
  split <;> simp [Memory.read, h]

theorem Memory.read_put_same {m : Memory} {a : Nat} (v : Byte) (h : ∀ c ∈ m, c.1 ≠ a) :
    (Memory.put m a v).read a = v := by
  unfold Memory.put
  split
  · next hv => rw [Memory.read_of_forall_ne h, hv]
  · simp [Memory.read]

/-- A store leaves every other byte alone (20_memory.md R43), whatever the memory. -/
theorem Memory.read_write_other (m : Memory) {a b : Nat} (v : Byte) (h : a ≠ b) : (m.write a v).read b = m.read b := by
  induction m with
  | nil => exact Memory.read_put_other [] v h
  | cons c m ih =>
    simp only [Memory.write]
    split
    · simp only [Memory.read, ih]
    · split
      · next hc => rw [Memory.read_put_other m v h, Memory.read, if_neg (by omega)]
      · exact Memory.read_put_other (c :: m) v h

/-- A stored byte is read back. -/
theorem Memory.read_write_same {m : Memory} (a : Nat) (v : Byte) (h : m.wf) : (m.write a v).read a = v := by
  induction m with
  | nil => exact Memory.read_put_same v (by simp)
  | cons c m ih =>
    have hlt : ∀ d ∈ m, c.1 < d.1 := (List.pairwise_cons.mp h.1).1
    simp only [Memory.write]
    split
    · simp only [Memory.read, if_neg (show ¬c.1 = a by omega), ih (Memory.wf_tail h)]
    · split
      · exact Memory.read_put_same v fun d hd => by have := hlt d hd; omega
      · refine Memory.read_put_same v fun d hd => ?_
        rcases List.mem_cons.mp hd with rfl | hd
        · omega
        · have := hlt d hd; omega

theorem Memory.mem_put {m : Memory} {a : Nat} {v : Byte} {c : Host.Cell} (h : c ∈ Memory.put m a v) :
    c ∈ m ∨ (c = (a, v) ∧ v ≠ Memory.blank) := by
  unfold Memory.put at h
  split at h
  · exact .inl h
  · next hv =>
    rcases List.mem_cons.mp h with rfl | h
    · exact .inr ⟨rfl, hv⟩
    · exact .inl h

/-- What a store lists was listed before or is the stored cell. -/
theorem Memory.mem_write {m : Memory} {a : Nat} {v : Byte} {c : Host.Cell} (h : c ∈ m.write a v) :
    c ∈ m ∨ (c = (a, v) ∧ v ≠ Memory.blank) := by
  induction m with
  | nil => exact Memory.mem_put h
  | cons d m ih =>
    simp only [Memory.write] at h
    split at h
    · rcases List.mem_cons.mp h with rfl | h
      · exact .inl (List.mem_cons_self)
      · exact (ih h).imp_left (List.mem_cons_of_mem d)
    · split at h
      · exact (Memory.mem_put h).imp_left (List.mem_cons_of_mem d)
      · exact Memory.mem_put h

theorem Memory.put_wf {m : Memory} {a : Nat} {v : Byte} (h : m.wf) (ha : ∀ c ∈ m, a < c.1) : (Memory.put m a v).wf := by
  unfold Memory.put
  split
  · exact h
  · next hv =>
    refine ⟨List.pairwise_cons.mpr ⟨ha, h.1⟩, fun c hc => ?_⟩
    rcases List.mem_cons.mp hc with rfl | hc
    · exact hv
    · exact h.2 c hc

/-- A store keeps the canonical form. -/
theorem Memory.write_wf {m : Memory} (a : Nat) (v : Byte) (h : m.wf) : (m.write a v).wf := by
  induction m with
  | nil => exact Memory.put_wf Memory.nil_wf (by simp)
  | cons c m ih =>
    have hlt : ∀ d ∈ m, c.1 < d.1 := (List.pairwise_cons.mp h.1).1
    have htail := Memory.wf_tail h
    simp only [Memory.write]
    split
    · next hca =>
      refine ⟨List.pairwise_cons.mpr ⟨fun d hd => ?_, (ih htail).1⟩, fun d hd => ?_⟩
      · rcases Memory.mem_write hd with hd | ⟨rfl, -⟩
        · exact hlt d hd
        · exact hca
      · rcases List.mem_cons.mp hd with rfl | hd
        · exact h.2 _ List.mem_cons_self
        · exact (ih htail).2 d hd
    · split
      · exact Memory.put_wf htail fun d hd => by have := hlt d hd; omega
      · refine Memory.put_wf h fun d hd => ?_
        rcases List.mem_cons.mp hd with rfl | hd
        · omega
        · have := hlt d hd; omega

/-! ### Several bytes -/

theorem Memory.writeBytes_wf {m : Memory} (a : Nat) (bs : List Byte) (h : m.wf) : (m.writeBytes a bs).wf := by
  induction bs generalizing m a with
  | nil => exact h
  | cons b bs ih => exact ih (a + 1) (Memory.write_wf a b h)

/-- Bytes outside the stored ones read as before (R43), whatever the memory. -/
theorem Memory.read_writeBytes_outside (m : Memory) (a : Nat) (bs : List Byte) {b : Nat} (h : b < a ∨ a + bs.length ≤ b) :
    (m.writeBytes a bs).read b = m.read b := by
  induction bs generalizing m a with
  | nil => rfl
  | cons v bs ih =>
    simp only [List.length_cons] at h
    rw [Memory.writeBytes, ih _ _ (by omega), Memory.read_write_other m v (by omega)]

/-- The stored bytes are read back. -/
theorem Memory.read_writeBytes_inside {m : Memory} (a : Nat) (bs : List Byte) (h : m.wf) (k : Nat) (hk : k < bs.length) :
    (m.writeBytes a bs).read (a + k) = bs[k] := by
  induction bs generalizing m a k with
  | nil => simp at hk
  | cons v bs ih =>
    cases k with
    | zero =>
      rw [Memory.writeBytes, Memory.read_writeBytes_outside _ _ _ (by omega)]
      exact Memory.read_write_same a v h
    | succ k =>
      have := ih (a + 1) (Memory.write_wf a v h) k (by simpa using hk)
      rw [Memory.writeBytes, show a + (k + 1) = a + 1 + k by omega, this]
      rfl

/-- What several stores list was listed before or lies among the stored addresses. -/
theorem Memory.mem_writeBytes {m : Memory} {a : Nat} {bs : List Byte} {c : Host.Cell} (h : c ∈ m.writeBytes a bs) :
    c ∈ m ∨ (a ≤ c.1 ∧ c.1 < a + bs.length) := by
  induction bs generalizing m a with
  | nil => exact .inl h
  | cons v bs ih =>
    simp only [List.length_cons]
    rcases ih h with h | ⟨h, h'⟩
    · rcases Memory.mem_write h with h | ⟨rfl, -⟩
      · exact .inl h
      · exact .inr ⟨le_refl a, by omega⟩
    · exact .inr ⟨by omega, by omega⟩

/-! ### The state's bytes -/

theorem State.byteAt_storeBytes_outside (s : State) (a : Nat) (bs : List Byte) {b : Nat}
    (h : b < a ∨ a + bs.length ≤ b) : (s.storeBytes a bs).byteAt b = s.byteAt b :=
  Memory.read_writeBytes_outside s.mem a bs h

theorem State.byteAt_storeBytes_inside (s : State) (a : Nat) (bs : List Byte) (h : s.mem.wf) (k : Nat)
    (hk : k < bs.length) : (s.storeBytes a bs).byteAt (a + k) = bs[k] :=
  Memory.read_writeBytes_inside a bs h k hk

theorem State.bytesAt_length (s : State) (a n : Nat) : (s.bytesAt a n).length = n := by simp [State.bytesAt]

theorem State.bytesAt_getElem (s : State) (a n k : Nat) (h : k < (s.bytesAt a n).length) :
    (s.bytesAt a n)[k] = s.byteAt (a + k) := by simp [State.bytesAt]

end Sys2Proof.Machine
end

