-- ==== Sys2Proof/Laws/State.lean ====
section
/-! SUPPORT. One lemma per field per update of State, each true by rfl, so that no proof unfolds a record update. -/

namespace Sys2Proof.Machine

variable (s : State)

/-! ### `State.setReg` -/

@[simp] theorem State.setReg_mem (x : Reg) (b : Byte) : (s.setReg x b).mem = s.mem := rfl
@[simp] theorem State.setReg_v (x : Reg) (b : Byte) : (s.setReg x b).v = s.v.set x b := rfl
@[simp] theorem State.setReg_i (x : Reg) (b : Byte) : (s.setReg x b).i = s.i := rfl
@[simp] theorem State.setReg_pc (x : Reg) (b : Byte) : (s.setReg x b).pc = s.pc := rfl
@[simp] theorem State.setReg_stack (x : Reg) (b : Byte) : (s.setReg x b).stack = s.stack := rfl
@[simp] theorem State.setReg_sp (x : Reg) (b : Byte) : (s.setReg x b).sp = s.sp := rfl
@[simp] theorem State.setReg_dt (x : Reg) (b : Byte) : (s.setReg x b).dt = s.dt := rfl
@[simp] theorem State.setReg_st (x : Reg) (b : Byte) : (s.setReg x b).st = s.st := rfl
@[simp] theorem State.setReg_grid (x : Reg) (b : Byte) : (s.setReg x b).grid = s.grid := rfl
@[simp] theorem State.setReg_dirty (x : Reg) (b : Byte) : (s.setReg x b).dirty = s.dirty := rfl
@[simp] theorem State.setReg_audioPlaying (x : Reg) (b : Byte) : (s.setReg x b).audioPlaying = s.audioPlaying := rfl
@[simp] theorem State.setReg_halt (x : Reg) (b : Byte) : (s.setReg x b).halt = s.halt := rfl
@[simp] theorem State.setReg_burst (x : Reg) (b : Byte) : (s.setReg x b).burst = s.burst := rfl
@[simp] theorem State.setReg_keysDown (x : Reg) (b : Byte) : (s.setReg x b).keysDown = s.keysDown := rfl
@[simp] theorem State.setReg_keysReleased (x : Reg) (b : Byte) : (s.setReg x b).keysReleased = s.keysReleased := rfl
@[simp] theorem State.setReg_config (x : Reg) (b : Byte) : (s.setReg x b).config = s.config := rfl
@[simp] theorem State.setReg_cost (x : Reg) (b : Byte) : (s.setReg x b).cost = s.cost := rfl
@[simp] theorem State.setReg_frames (x : Reg) (b : Byte) : (s.setReg x b).frames = s.frames := rfl
@[simp] theorem State.setReg_ticks (x : Reg) (b : Byte) : (s.setReg x b).ticks = s.ticks := rfl
@[simp] theorem State.setReg_draws (x : Reg) (b : Byte) : (s.setReg x b).draws = s.draws := rfl

/-! ### `State.setRegs` -/

@[simp] theorem State.setRegs_mem (w : Vector Byte 16) : (s.setRegs w).mem = s.mem := rfl
@[simp] theorem State.setRegs_v (w : Vector Byte 16) : (s.setRegs w).v = w := rfl
@[simp] theorem State.setRegs_i (w : Vector Byte 16) : (s.setRegs w).i = s.i := rfl
@[simp] theorem State.setRegs_pc (w : Vector Byte 16) : (s.setRegs w).pc = s.pc := rfl
@[simp] theorem State.setRegs_stack (w : Vector Byte 16) : (s.setRegs w).stack = s.stack := rfl
@[simp] theorem State.setRegs_sp (w : Vector Byte 16) : (s.setRegs w).sp = s.sp := rfl
@[simp] theorem State.setRegs_dt (w : Vector Byte 16) : (s.setRegs w).dt = s.dt := rfl
@[simp] theorem State.setRegs_st (w : Vector Byte 16) : (s.setRegs w).st = s.st := rfl
@[simp] theorem State.setRegs_grid (w : Vector Byte 16) : (s.setRegs w).grid = s.grid := rfl
@[simp] theorem State.setRegs_dirty (w : Vector Byte 16) : (s.setRegs w).dirty = s.dirty := rfl
@[simp] theorem State.setRegs_audioPlaying (w : Vector Byte 16) : (s.setRegs w).audioPlaying = s.audioPlaying := rfl
@[simp] theorem State.setRegs_halt (w : Vector Byte 16) : (s.setRegs w).halt = s.halt := rfl
@[simp] theorem State.setRegs_burst (w : Vector Byte 16) : (s.setRegs w).burst = s.burst := rfl
@[simp] theorem State.setRegs_keysDown (w : Vector Byte 16) : (s.setRegs w).keysDown = s.keysDown := rfl
@[simp] theorem State.setRegs_keysReleased (w : Vector Byte 16) : (s.setRegs w).keysReleased = s.keysReleased := rfl
@[simp] theorem State.setRegs_config (w : Vector Byte 16) : (s.setRegs w).config = s.config := rfl
@[simp] theorem State.setRegs_cost (w : Vector Byte 16) : (s.setRegs w).cost = s.cost := rfl
@[simp] theorem State.setRegs_frames (w : Vector Byte 16) : (s.setRegs w).frames = s.frames := rfl
@[simp] theorem State.setRegs_ticks (w : Vector Byte 16) : (s.setRegs w).ticks = s.ticks := rfl
@[simp] theorem State.setRegs_draws (w : Vector Byte 16) : (s.setRegs w).draws = s.draws := rfl

/-! ### `State.setIndex` -/

@[simp] theorem State.setIndex_mem (w : Word) : (s.setIndex w).mem = s.mem := rfl
@[simp] theorem State.setIndex_v (w : Word) : (s.setIndex w).v = s.v := rfl
@[simp] theorem State.setIndex_i (w : Word) : (s.setIndex w).i = w := rfl
@[simp] theorem State.setIndex_pc (w : Word) : (s.setIndex w).pc = s.pc := rfl
@[simp] theorem State.setIndex_stack (w : Word) : (s.setIndex w).stack = s.stack := rfl
@[simp] theorem State.setIndex_sp (w : Word) : (s.setIndex w).sp = s.sp := rfl
@[simp] theorem State.setIndex_dt (w : Word) : (s.setIndex w).dt = s.dt := rfl
@[simp] theorem State.setIndex_st (w : Word) : (s.setIndex w).st = s.st := rfl
@[simp] theorem State.setIndex_grid (w : Word) : (s.setIndex w).grid = s.grid := rfl
@[simp] theorem State.setIndex_dirty (w : Word) : (s.setIndex w).dirty = s.dirty := rfl
@[simp] theorem State.setIndex_audioPlaying (w : Word) : (s.setIndex w).audioPlaying = s.audioPlaying := rfl
@[simp] theorem State.setIndex_halt (w : Word) : (s.setIndex w).halt = s.halt := rfl
@[simp] theorem State.setIndex_burst (w : Word) : (s.setIndex w).burst = s.burst := rfl
@[simp] theorem State.setIndex_keysDown (w : Word) : (s.setIndex w).keysDown = s.keysDown := rfl
@[simp] theorem State.setIndex_keysReleased (w : Word) : (s.setIndex w).keysReleased = s.keysReleased := rfl
@[simp] theorem State.setIndex_config (w : Word) : (s.setIndex w).config = s.config := rfl
@[simp] theorem State.setIndex_cost (w : Word) : (s.setIndex w).cost = s.cost := rfl
@[simp] theorem State.setIndex_frames (w : Word) : (s.setIndex w).frames = s.frames := rfl
@[simp] theorem State.setIndex_ticks (w : Word) : (s.setIndex w).ticks = s.ticks := rfl
@[simp] theorem State.setIndex_draws (w : Word) : (s.setIndex w).draws = s.draws := rfl

/-! ### `State.setPc` -/

@[simp] theorem State.setPc_mem (w : Word) : (s.setPc w).mem = s.mem := rfl
@[simp] theorem State.setPc_v (w : Word) : (s.setPc w).v = s.v := rfl
@[simp] theorem State.setPc_i (w : Word) : (s.setPc w).i = s.i := rfl
@[simp] theorem State.setPc_pc (w : Word) : (s.setPc w).pc = w := rfl
@[simp] theorem State.setPc_stack (w : Word) : (s.setPc w).stack = s.stack := rfl
@[simp] theorem State.setPc_sp (w : Word) : (s.setPc w).sp = s.sp := rfl
@[simp] theorem State.setPc_dt (w : Word) : (s.setPc w).dt = s.dt := rfl
@[simp] theorem State.setPc_st (w : Word) : (s.setPc w).st = s.st := rfl
@[simp] theorem State.setPc_grid (w : Word) : (s.setPc w).grid = s.grid := rfl
@[simp] theorem State.setPc_dirty (w : Word) : (s.setPc w).dirty = s.dirty := rfl
@[simp] theorem State.setPc_audioPlaying (w : Word) : (s.setPc w).audioPlaying = s.audioPlaying := rfl
@[simp] theorem State.setPc_halt (w : Word) : (s.setPc w).halt = s.halt := rfl
@[simp] theorem State.setPc_burst (w : Word) : (s.setPc w).burst = s.burst := rfl
@[simp] theorem State.setPc_keysDown (w : Word) : (s.setPc w).keysDown = s.keysDown := rfl
@[simp] theorem State.setPc_keysReleased (w : Word) : (s.setPc w).keysReleased = s.keysReleased := rfl
@[simp] theorem State.setPc_config (w : Word) : (s.setPc w).config = s.config := rfl
@[simp] theorem State.setPc_cost (w : Word) : (s.setPc w).cost = s.cost := rfl
@[simp] theorem State.setPc_frames (w : Word) : (s.setPc w).frames = s.frames := rfl
@[simp] theorem State.setPc_ticks (w : Word) : (s.setPc w).ticks = s.ticks := rfl
@[simp] theorem State.setPc_draws (w : Word) : (s.setPc w).draws = s.draws := rfl

/-! ### `State.setDelayTimer` -/

@[simp] theorem State.setDelayTimer_mem (b : Byte) : (s.setDelayTimer b).mem = s.mem := rfl
@[simp] theorem State.setDelayTimer_v (b : Byte) : (s.setDelayTimer b).v = s.v := rfl
@[simp] theorem State.setDelayTimer_i (b : Byte) : (s.setDelayTimer b).i = s.i := rfl
@[simp] theorem State.setDelayTimer_pc (b : Byte) : (s.setDelayTimer b).pc = s.pc := rfl
@[simp] theorem State.setDelayTimer_stack (b : Byte) : (s.setDelayTimer b).stack = s.stack := rfl
@[simp] theorem State.setDelayTimer_sp (b : Byte) : (s.setDelayTimer b).sp = s.sp := rfl
@[simp] theorem State.setDelayTimer_dt (b : Byte) : (s.setDelayTimer b).dt = b := rfl
@[simp] theorem State.setDelayTimer_st (b : Byte) : (s.setDelayTimer b).st = s.st := rfl
@[simp] theorem State.setDelayTimer_grid (b : Byte) : (s.setDelayTimer b).grid = s.grid := rfl
@[simp] theorem State.setDelayTimer_dirty (b : Byte) : (s.setDelayTimer b).dirty = s.dirty := rfl
@[simp] theorem State.setDelayTimer_audioPlaying (b : Byte) : (s.setDelayTimer b).audioPlaying = s.audioPlaying := rfl
@[simp] theorem State.setDelayTimer_halt (b : Byte) : (s.setDelayTimer b).halt = s.halt := rfl
@[simp] theorem State.setDelayTimer_burst (b : Byte) : (s.setDelayTimer b).burst = s.burst := rfl
@[simp] theorem State.setDelayTimer_keysDown (b : Byte) : (s.setDelayTimer b).keysDown = s.keysDown := rfl
@[simp] theorem State.setDelayTimer_keysReleased (b : Byte) : (s.setDelayTimer b).keysReleased = s.keysReleased := rfl
@[simp] theorem State.setDelayTimer_config (b : Byte) : (s.setDelayTimer b).config = s.config := rfl
@[simp] theorem State.setDelayTimer_cost (b : Byte) : (s.setDelayTimer b).cost = s.cost := rfl
@[simp] theorem State.setDelayTimer_frames (b : Byte) : (s.setDelayTimer b).frames = s.frames := rfl
@[simp] theorem State.setDelayTimer_ticks (b : Byte) : (s.setDelayTimer b).ticks = s.ticks := rfl
@[simp] theorem State.setDelayTimer_draws (b : Byte) : (s.setDelayTimer b).draws = s.draws := rfl

/-! ### `State.setSoundTimer` -/

@[simp] theorem State.setSoundTimer_mem (b : Byte) : (s.setSoundTimer b).mem = s.mem := rfl
@[simp] theorem State.setSoundTimer_v (b : Byte) : (s.setSoundTimer b).v = s.v := rfl
@[simp] theorem State.setSoundTimer_i (b : Byte) : (s.setSoundTimer b).i = s.i := rfl
@[simp] theorem State.setSoundTimer_pc (b : Byte) : (s.setSoundTimer b).pc = s.pc := rfl
@[simp] theorem State.setSoundTimer_stack (b : Byte) : (s.setSoundTimer b).stack = s.stack := rfl
@[simp] theorem State.setSoundTimer_sp (b : Byte) : (s.setSoundTimer b).sp = s.sp := rfl
@[simp] theorem State.setSoundTimer_dt (b : Byte) : (s.setSoundTimer b).dt = s.dt := rfl
@[simp] theorem State.setSoundTimer_st (b : Byte) : (s.setSoundTimer b).st = b := rfl
@[simp] theorem State.setSoundTimer_grid (b : Byte) : (s.setSoundTimer b).grid = s.grid := rfl
@[simp] theorem State.setSoundTimer_dirty (b : Byte) : (s.setSoundTimer b).dirty = s.dirty := rfl
@[simp] theorem State.setSoundTimer_audioPlaying (b : Byte) : (s.setSoundTimer b).audioPlaying = s.audioPlaying := rfl
@[simp] theorem State.setSoundTimer_halt (b : Byte) : (s.setSoundTimer b).halt = s.halt := rfl
@[simp] theorem State.setSoundTimer_burst (b : Byte) : (s.setSoundTimer b).burst = s.burst := rfl
@[simp] theorem State.setSoundTimer_keysDown (b : Byte) : (s.setSoundTimer b).keysDown = s.keysDown := rfl
@[simp] theorem State.setSoundTimer_keysReleased (b : Byte) : (s.setSoundTimer b).keysReleased = s.keysReleased := rfl
@[simp] theorem State.setSoundTimer_config (b : Byte) : (s.setSoundTimer b).config = s.config := rfl
@[simp] theorem State.setSoundTimer_cost (b : Byte) : (s.setSoundTimer b).cost = s.cost := rfl
@[simp] theorem State.setSoundTimer_frames (b : Byte) : (s.setSoundTimer b).frames = s.frames := rfl
@[simp] theorem State.setSoundTimer_ticks (b : Byte) : (s.setSoundTimer b).ticks = s.ticks := rfl
@[simp] theorem State.setSoundTimer_draws (b : Byte) : (s.setSoundTimer b).draws = s.draws := rfl

/-! ### `State.setGrid` -/

@[simp] theorem State.setGrid_mem (g : Grid) : (s.setGrid g).mem = s.mem := rfl
@[simp] theorem State.setGrid_v (g : Grid) : (s.setGrid g).v = s.v := rfl
@[simp] theorem State.setGrid_i (g : Grid) : (s.setGrid g).i = s.i := rfl
@[simp] theorem State.setGrid_pc (g : Grid) : (s.setGrid g).pc = s.pc := rfl
@[simp] theorem State.setGrid_stack (g : Grid) : (s.setGrid g).stack = s.stack := rfl
@[simp] theorem State.setGrid_sp (g : Grid) : (s.setGrid g).sp = s.sp := rfl
@[simp] theorem State.setGrid_dt (g : Grid) : (s.setGrid g).dt = s.dt := rfl
@[simp] theorem State.setGrid_st (g : Grid) : (s.setGrid g).st = s.st := rfl
@[simp] theorem State.setGrid_grid (g : Grid) : (s.setGrid g).grid = g := rfl
@[simp] theorem State.setGrid_dirty (g : Grid) : (s.setGrid g).dirty = s.dirty := rfl
@[simp] theorem State.setGrid_audioPlaying (g : Grid) : (s.setGrid g).audioPlaying = s.audioPlaying := rfl
@[simp] theorem State.setGrid_halt (g : Grid) : (s.setGrid g).halt = s.halt := rfl
@[simp] theorem State.setGrid_burst (g : Grid) : (s.setGrid g).burst = s.burst := rfl
@[simp] theorem State.setGrid_keysDown (g : Grid) : (s.setGrid g).keysDown = s.keysDown := rfl
@[simp] theorem State.setGrid_keysReleased (g : Grid) : (s.setGrid g).keysReleased = s.keysReleased := rfl
@[simp] theorem State.setGrid_config (g : Grid) : (s.setGrid g).config = s.config := rfl
@[simp] theorem State.setGrid_cost (g : Grid) : (s.setGrid g).cost = s.cost := rfl
@[simp] theorem State.setGrid_frames (g : Grid) : (s.setGrid g).frames = s.frames := rfl
@[simp] theorem State.setGrid_ticks (g : Grid) : (s.setGrid g).ticks = s.ticks := rfl
@[simp] theorem State.setGrid_draws (g : Grid) : (s.setGrid g).draws = s.draws := rfl

/-! ### `State.setDirty` -/

@[simp] theorem State.setDirty_mem (b : Bool) : (s.setDirty b).mem = s.mem := rfl
@[simp] theorem State.setDirty_v (b : Bool) : (s.setDirty b).v = s.v := rfl
@[simp] theorem State.setDirty_i (b : Bool) : (s.setDirty b).i = s.i := rfl
@[simp] theorem State.setDirty_pc (b : Bool) : (s.setDirty b).pc = s.pc := rfl
@[simp] theorem State.setDirty_stack (b : Bool) : (s.setDirty b).stack = s.stack := rfl
@[simp] theorem State.setDirty_sp (b : Bool) : (s.setDirty b).sp = s.sp := rfl
@[simp] theorem State.setDirty_dt (b : Bool) : (s.setDirty b).dt = s.dt := rfl
@[simp] theorem State.setDirty_st (b : Bool) : (s.setDirty b).st = s.st := rfl
@[simp] theorem State.setDirty_grid (b : Bool) : (s.setDirty b).grid = s.grid := rfl
@[simp] theorem State.setDirty_dirty (b : Bool) : (s.setDirty b).dirty = b := rfl
@[simp] theorem State.setDirty_audioPlaying (b : Bool) : (s.setDirty b).audioPlaying = s.audioPlaying := rfl
@[simp] theorem State.setDirty_halt (b : Bool) : (s.setDirty b).halt = s.halt := rfl
@[simp] theorem State.setDirty_burst (b : Bool) : (s.setDirty b).burst = s.burst := rfl
@[simp] theorem State.setDirty_keysDown (b : Bool) : (s.setDirty b).keysDown = s.keysDown := rfl
@[simp] theorem State.setDirty_keysReleased (b : Bool) : (s.setDirty b).keysReleased = s.keysReleased := rfl
@[simp] theorem State.setDirty_config (b : Bool) : (s.setDirty b).config = s.config := rfl
@[simp] theorem State.setDirty_cost (b : Bool) : (s.setDirty b).cost = s.cost := rfl
@[simp] theorem State.setDirty_frames (b : Bool) : (s.setDirty b).frames = s.frames := rfl
@[simp] theorem State.setDirty_ticks (b : Bool) : (s.setDirty b).ticks = s.ticks := rfl
@[simp] theorem State.setDirty_draws (b : Bool) : (s.setDirty b).draws = s.draws := rfl

/-! ### `State.storeBytes` -/

@[simp] theorem State.storeBytes_mem (a : Nat) (bs : List Byte) : (s.storeBytes a bs).mem = s.mem.writeBytes a bs := rfl
@[simp] theorem State.storeBytes_v (a : Nat) (bs : List Byte) : (s.storeBytes a bs).v = s.v := rfl
@[simp] theorem State.storeBytes_i (a : Nat) (bs : List Byte) : (s.storeBytes a bs).i = s.i := rfl
@[simp] theorem State.storeBytes_pc (a : Nat) (bs : List Byte) : (s.storeBytes a bs).pc = s.pc := rfl
@[simp] theorem State.storeBytes_stack (a : Nat) (bs : List Byte) : (s.storeBytes a bs).stack = s.stack := rfl
@[simp] theorem State.storeBytes_sp (a : Nat) (bs : List Byte) : (s.storeBytes a bs).sp = s.sp := rfl
@[simp] theorem State.storeBytes_dt (a : Nat) (bs : List Byte) : (s.storeBytes a bs).dt = s.dt := rfl
@[simp] theorem State.storeBytes_st (a : Nat) (bs : List Byte) : (s.storeBytes a bs).st = s.st := rfl
@[simp] theorem State.storeBytes_grid (a : Nat) (bs : List Byte) : (s.storeBytes a bs).grid = s.grid := rfl
@[simp] theorem State.storeBytes_dirty (a : Nat) (bs : List Byte) : (s.storeBytes a bs).dirty = s.dirty := rfl
@[simp] theorem State.storeBytes_audioPlaying (a : Nat) (bs : List Byte) : (s.storeBytes a bs).audioPlaying = s.audioPlaying := rfl
@[simp] theorem State.storeBytes_halt (a : Nat) (bs : List Byte) : (s.storeBytes a bs).halt = s.halt := rfl
@[simp] theorem State.storeBytes_burst (a : Nat) (bs : List Byte) : (s.storeBytes a bs).burst = s.burst := rfl
@[simp] theorem State.storeBytes_keysDown (a : Nat) (bs : List Byte) : (s.storeBytes a bs).keysDown = s.keysDown := rfl
@[simp] theorem State.storeBytes_keysReleased (a : Nat) (bs : List Byte) : (s.storeBytes a bs).keysReleased = s.keysReleased := rfl
@[simp] theorem State.storeBytes_config (a : Nat) (bs : List Byte) : (s.storeBytes a bs).config = s.config := rfl
@[simp] theorem State.storeBytes_cost (a : Nat) (bs : List Byte) : (s.storeBytes a bs).cost = s.cost := rfl
@[simp] theorem State.storeBytes_frames (a : Nat) (bs : List Byte) : (s.storeBytes a bs).frames = s.frames := rfl
@[simp] theorem State.storeBytes_ticks (a : Nat) (bs : List Byte) : (s.storeBytes a bs).ticks = s.ticks := rfl
@[simp] theorem State.storeBytes_draws (a : Nat) (bs : List Byte) : (s.storeBytes a bs).draws = s.draws := rfl

/-! ### `State.drawn` -/

@[simp] theorem State.drawn_mem : (s.drawn).mem = s.mem := rfl
@[simp] theorem State.drawn_v : (s.drawn).v = s.v := rfl
@[simp] theorem State.drawn_i : (s.drawn).i = s.i := rfl
@[simp] theorem State.drawn_pc : (s.drawn).pc = s.pc := rfl
@[simp] theorem State.drawn_stack : (s.drawn).stack = s.stack := rfl
@[simp] theorem State.drawn_sp : (s.drawn).sp = s.sp := rfl
@[simp] theorem State.drawn_dt : (s.drawn).dt = s.dt := rfl
@[simp] theorem State.drawn_st : (s.drawn).st = s.st := rfl
@[simp] theorem State.drawn_grid : (s.drawn).grid = s.grid := rfl
@[simp] theorem State.drawn_dirty : (s.drawn).dirty = s.dirty := rfl
@[simp] theorem State.drawn_audioPlaying : (s.drawn).audioPlaying = s.audioPlaying := rfl
@[simp] theorem State.drawn_halt : (s.drawn).halt = s.halt := rfl
@[simp] theorem State.drawn_burst : (s.drawn).burst = s.burst := rfl
@[simp] theorem State.drawn_keysDown : (s.drawn).keysDown = s.keysDown := rfl
@[simp] theorem State.drawn_keysReleased : (s.drawn).keysReleased = s.keysReleased := rfl
@[simp] theorem State.drawn_config : (s.drawn).config = s.config := rfl
@[simp] theorem State.drawn_cost : (s.drawn).cost = s.cost := rfl
@[simp] theorem State.drawn_frames : (s.drawn).frames = s.frames := rfl
@[simp] theorem State.drawn_ticks : (s.drawn).ticks = s.ticks := rfl
@[simp] theorem State.drawn_draws : (s.drawn).draws = s.draws + 1 := rfl

/-! ### `State.report` -/

@[simp] theorem State.report_mem (c : Nat) : (s.report c).mem = s.mem := rfl
@[simp] theorem State.report_v (c : Nat) : (s.report c).v = s.v := rfl
@[simp] theorem State.report_i (c : Nat) : (s.report c).i = s.i := rfl
@[simp] theorem State.report_pc (c : Nat) : (s.report c).pc = s.pc := rfl
@[simp] theorem State.report_stack (c : Nat) : (s.report c).stack = s.stack := rfl
@[simp] theorem State.report_sp (c : Nat) : (s.report c).sp = s.sp := rfl
@[simp] theorem State.report_dt (c : Nat) : (s.report c).dt = s.dt := rfl
@[simp] theorem State.report_st (c : Nat) : (s.report c).st = s.st := rfl
@[simp] theorem State.report_grid (c : Nat) : (s.report c).grid = s.grid := rfl
@[simp] theorem State.report_dirty (c : Nat) : (s.report c).dirty = s.dirty := rfl
@[simp] theorem State.report_audioPlaying (c : Nat) : (s.report c).audioPlaying = s.audioPlaying := rfl
@[simp] theorem State.report_halt (c : Nat) : (s.report c).halt = s.halt := rfl
@[simp] theorem State.report_burst (c : Nat) : (s.report c).burst = s.burst := rfl
@[simp] theorem State.report_keysDown (c : Nat) : (s.report c).keysDown = s.keysDown := rfl
@[simp] theorem State.report_keysReleased (c : Nat) : (s.report c).keysReleased = s.keysReleased := rfl
@[simp] theorem State.report_config (c : Nat) : (s.report c).config = s.config := rfl
@[simp] theorem State.report_cost (c : Nat) : (s.report c).cost = some c := rfl
@[simp] theorem State.report_frames (c : Nat) : (s.report c).frames = s.frames := rfl
@[simp] theorem State.report_ticks (c : Nat) : (s.report c).ticks = s.ticks := rfl
@[simp] theorem State.report_draws (c : Nat) : (s.report c).draws = s.draws := rfl

/-! ### `State.memFault` -/

@[simp] theorem State.memFault_mem (k : FaultCause) (a : Nat) (p : Word) : (s.memFault k a p).mem = s.mem := rfl
@[simp] theorem State.memFault_v (k : FaultCause) (a : Nat) (p : Word) : (s.memFault k a p).v = s.v := rfl
@[simp] theorem State.memFault_i (k : FaultCause) (a : Nat) (p : Word) : (s.memFault k a p).i = s.i := rfl
@[simp] theorem State.memFault_pc (k : FaultCause) (a : Nat) (p : Word) : (s.memFault k a p).pc = s.pc := rfl
@[simp] theorem State.memFault_stack (k : FaultCause) (a : Nat) (p : Word) : (s.memFault k a p).stack = s.stack := rfl
@[simp] theorem State.memFault_sp (k : FaultCause) (a : Nat) (p : Word) : (s.memFault k a p).sp = s.sp := rfl
@[simp] theorem State.memFault_dt (k : FaultCause) (a : Nat) (p : Word) : (s.memFault k a p).dt = s.dt := rfl
@[simp] theorem State.memFault_st (k : FaultCause) (a : Nat) (p : Word) : (s.memFault k a p).st = s.st := rfl
@[simp] theorem State.memFault_grid (k : FaultCause) (a : Nat) (p : Word) : (s.memFault k a p).grid = s.grid := rfl
@[simp] theorem State.memFault_dirty (k : FaultCause) (a : Nat) (p : Word) : (s.memFault k a p).dirty = s.dirty := rfl
@[simp] theorem State.memFault_audioPlaying (k : FaultCause) (a : Nat) (p : Word) : (s.memFault k a p).audioPlaying = s.audioPlaying := rfl
@[simp] theorem State.memFault_halt (k : FaultCause) (a : Nat) (p : Word) : (s.memFault k a p).halt = some ⟨k, a, p⟩ := rfl
@[simp] theorem State.memFault_burst (k : FaultCause) (a : Nat) (p : Word) : (s.memFault k a p).burst = s.burst := rfl
@[simp] theorem State.memFault_keysDown (k : FaultCause) (a : Nat) (p : Word) : (s.memFault k a p).keysDown = s.keysDown := rfl
@[simp] theorem State.memFault_keysReleased (k : FaultCause) (a : Nat) (p : Word) : (s.memFault k a p).keysReleased = s.keysReleased := rfl
@[simp] theorem State.memFault_config (k : FaultCause) (a : Nat) (p : Word) : (s.memFault k a p).config = s.config := rfl
@[simp] theorem State.memFault_cost (k : FaultCause) (a : Nat) (p : Word) : (s.memFault k a p).cost = none := rfl
@[simp] theorem State.memFault_frames (k : FaultCause) (a : Nat) (p : Word) : (s.memFault k a p).frames = s.frames := rfl
@[simp] theorem State.memFault_ticks (k : FaultCause) (a : Nat) (p : Word) : (s.memFault k a p).ticks = s.ticks := rfl
@[simp] theorem State.memFault_draws (k : FaultCause) (a : Nat) (p : Word) : (s.memFault k a p).draws = s.draws := rfl

/-! ### `State.drop` -/

@[simp] theorem State.drop_mem : (s.drop).mem = s.mem := rfl
@[simp] theorem State.drop_v : (s.drop).v = s.v := rfl
@[simp] theorem State.drop_i : (s.drop).i = s.i := rfl
@[simp] theorem State.drop_pc : (s.drop).pc = s.pc := rfl
@[simp] theorem State.drop_stack : (s.drop).stack = s.stack := rfl
@[simp] theorem State.drop_dt : (s.drop).dt = s.dt := rfl
@[simp] theorem State.drop_st : (s.drop).st = s.st := rfl
@[simp] theorem State.drop_grid : (s.drop).grid = s.grid := rfl
@[simp] theorem State.drop_dirty : (s.drop).dirty = s.dirty := rfl
@[simp] theorem State.drop_audioPlaying : (s.drop).audioPlaying = s.audioPlaying := rfl
@[simp] theorem State.drop_halt : (s.drop).halt = s.halt := rfl
@[simp] theorem State.drop_burst : (s.drop).burst = s.burst := rfl
@[simp] theorem State.drop_keysDown : (s.drop).keysDown = s.keysDown := rfl
@[simp] theorem State.drop_keysReleased : (s.drop).keysReleased = s.keysReleased := rfl
@[simp] theorem State.drop_config : (s.drop).config = s.config := rfl
@[simp] theorem State.drop_cost : (s.drop).cost = s.cost := rfl
@[simp] theorem State.drop_frames : (s.drop).frames = s.frames := rfl
@[simp] theorem State.drop_ticks : (s.drop).ticks = s.ticks := rfl
@[simp] theorem State.drop_draws : (s.drop).draws = s.draws := rfl

/-! ### `State.hostActs` -/

@[simp] theorem State.hostActs_mem (f : HostFrame) : (s.hostActs f).mem = s.mem := rfl
@[simp] theorem State.hostActs_v (f : HostFrame) : (s.hostActs f).v = s.v := rfl
@[simp] theorem State.hostActs_i (f : HostFrame) : (s.hostActs f).i = s.i := rfl
@[simp] theorem State.hostActs_pc (f : HostFrame) : (s.hostActs f).pc = s.pc := rfl
@[simp] theorem State.hostActs_stack (f : HostFrame) : (s.hostActs f).stack = s.stack := rfl
@[simp] theorem State.hostActs_sp (f : HostFrame) : (s.hostActs f).sp = s.sp := rfl
@[simp] theorem State.hostActs_dt (f : HostFrame) : (s.hostActs f).dt = s.dt := rfl
@[simp] theorem State.hostActs_st (f : HostFrame) : (s.hostActs f).st = s.st := rfl
@[simp] theorem State.hostActs_grid (f : HostFrame) : (s.hostActs f).grid = s.grid := rfl
@[simp] theorem State.hostActs_dirty (f : HostFrame) : (s.hostActs f).dirty = (s.dirty && !f.clearDirty) := rfl
@[simp] theorem State.hostActs_audioPlaying (f : HostFrame) : (s.hostActs f).audioPlaying = s.audioPlaying := rfl
@[simp] theorem State.hostActs_halt (f : HostFrame) : (s.hostActs f).halt = s.halt := rfl
@[simp] theorem State.hostActs_burst (f : HostFrame) : (s.hostActs f).burst = s.burst := rfl
@[simp] theorem State.hostActs_keysDown (f : HostFrame) : (s.hostActs f).keysDown = f.keysDown := rfl
@[simp] theorem State.hostActs_keysReleased (f : HostFrame) : (s.hostActs f).keysReleased = f.keysReleased := rfl
@[simp] theorem State.hostActs_config (f : HostFrame) : (s.hostActs f).config = s.config := rfl
@[simp] theorem State.hostActs_cost (f : HostFrame) : (s.hostActs f).cost = s.cost := rfl
@[simp] theorem State.hostActs_frames (f : HostFrame) : (s.hostActs f).frames = s.frames := rfl
@[simp] theorem State.hostActs_ticks (f : HostFrame) : (s.hostActs f).ticks = s.ticks := rfl
@[simp] theorem State.hostActs_draws (f : HostFrame) : (s.hostActs f).draws = s.draws := rfl

/-! ### `State.frameUsed` -/

@[simp] theorem State.frameUsed_mem : (s.frameUsed).mem = s.mem := rfl
@[simp] theorem State.frameUsed_v : (s.frameUsed).v = s.v := rfl
@[simp] theorem State.frameUsed_i : (s.frameUsed).i = s.i := rfl
@[simp] theorem State.frameUsed_pc : (s.frameUsed).pc = s.pc := rfl
@[simp] theorem State.frameUsed_stack : (s.frameUsed).stack = s.stack := rfl
@[simp] theorem State.frameUsed_sp : (s.frameUsed).sp = s.sp := rfl
@[simp] theorem State.frameUsed_dt : (s.frameUsed).dt = s.dt := rfl
@[simp] theorem State.frameUsed_st : (s.frameUsed).st = s.st := rfl
@[simp] theorem State.frameUsed_grid : (s.frameUsed).grid = s.grid := rfl
@[simp] theorem State.frameUsed_dirty : (s.frameUsed).dirty = s.dirty := rfl
@[simp] theorem State.frameUsed_audioPlaying : (s.frameUsed).audioPlaying = s.audioPlaying := rfl
@[simp] theorem State.frameUsed_halt : (s.frameUsed).halt = s.halt := rfl
@[simp] theorem State.frameUsed_burst : (s.frameUsed).burst = s.burst := rfl
@[simp] theorem State.frameUsed_keysDown : (s.frameUsed).keysDown = s.keysDown := rfl
@[simp] theorem State.frameUsed_keysReleased : (s.frameUsed).keysReleased = s.keysReleased := rfl
@[simp] theorem State.frameUsed_config : (s.frameUsed).config = s.config := rfl
@[simp] theorem State.frameUsed_cost : (s.frameUsed).cost = s.cost := rfl
@[simp] theorem State.frameUsed_frames : (s.frameUsed).frames = s.frames.tail := rfl
@[simp] theorem State.frameUsed_ticks : (s.frameUsed).ticks = s.ticks + 1 := rfl
@[simp] theorem State.frameUsed_draws : (s.frameUsed).draws = s.draws := rfl

/-! ### `State.openBurst` -/

@[simp] theorem State.openBurst_mem : (s.openBurst).mem = s.mem := rfl
@[simp] theorem State.openBurst_v : (s.openBurst).v = s.v := rfl
@[simp] theorem State.openBurst_i : (s.openBurst).i = s.i := rfl
@[simp] theorem State.openBurst_pc : (s.openBurst).pc = s.pc := rfl
@[simp] theorem State.openBurst_stack : (s.openBurst).stack = s.stack := rfl
@[simp] theorem State.openBurst_sp : (s.openBurst).sp = s.sp := rfl
@[simp] theorem State.openBurst_dt : (s.openBurst).dt = s.dt := rfl
@[simp] theorem State.openBurst_st : (s.openBurst).st = s.st := rfl
@[simp] theorem State.openBurst_grid : (s.openBurst).grid = s.grid := rfl
@[simp] theorem State.openBurst_dirty : (s.openBurst).dirty = s.dirty := rfl
@[simp] theorem State.openBurst_audioPlaying : (s.openBurst).audioPlaying = s.audioPlaying := rfl
@[simp] theorem State.openBurst_halt : (s.openBurst).halt = s.halt := rfl
@[simp] theorem State.openBurst_burst : (s.openBurst).burst = some 0 := rfl
@[simp] theorem State.openBurst_keysDown : (s.openBurst).keysDown = s.keysDown := rfl
@[simp] theorem State.openBurst_keysReleased : (s.openBurst).keysReleased = s.keysReleased := rfl
@[simp] theorem State.openBurst_config : (s.openBurst).config = s.config := rfl
@[simp] theorem State.openBurst_cost : (s.openBurst).cost = s.cost := rfl
@[simp] theorem State.openBurst_frames : (s.openBurst).frames = s.frames := rfl
@[simp] theorem State.openBurst_ticks : (s.openBurst).ticks = s.ticks := rfl
@[simp] theorem State.openBurst_draws : (s.openBurst).draws = s.draws := rfl

/-! ### `State.account` -/

@[simp] theorem State.account_mem : (s.account).mem = s.mem := rfl
@[simp] theorem State.account_v : (s.account).v = s.v := rfl
@[simp] theorem State.account_i : (s.account).i = s.i := rfl
@[simp] theorem State.account_pc : (s.account).pc = s.pc := rfl
@[simp] theorem State.account_stack : (s.account).stack = s.stack := rfl
@[simp] theorem State.account_sp : (s.account).sp = s.sp := rfl
@[simp] theorem State.account_dt : (s.account).dt = s.dt := rfl
@[simp] theorem State.account_st : (s.account).st = s.st := rfl
@[simp] theorem State.account_grid : (s.account).grid = s.grid := rfl
@[simp] theorem State.account_dirty : (s.account).dirty = s.dirty := rfl
@[simp] theorem State.account_audioPlaying : (s.account).audioPlaying = s.audioPlaying := rfl
@[simp] theorem State.account_halt : (s.account).halt = s.halt := rfl
@[simp] theorem State.account_keysDown : (s.account).keysDown = s.keysDown := rfl
@[simp] theorem State.account_keysReleased : (s.account).keysReleased = s.keysReleased := rfl
@[simp] theorem State.account_config : (s.account).config = s.config := rfl
@[simp] theorem State.account_cost : (s.account).cost = s.cost := rfl
@[simp] theorem State.account_frames : (s.account).frames = s.frames := rfl
@[simp] theorem State.account_ticks : (s.account).ticks = s.ticks := rfl
@[simp] theorem State.account_draws : (s.account).draws = s.draws := rfl

end Sys2Proof.Machine
end

