-- ==== Sys2Proof/Laws/Ops.lean ====
section
/-! SUPPORT. One lemma for each shared operation that says all it can do: registers, the stack, the skip, the cost
function, the result and its flag, the range pre-check, the grid. -/

namespace Sys2Proof.Machine

/-! ### Registers -/

theorem vector_get_set {n : Nat} {α : Type} (v : Vector α n) (i j : Fin n) (b : α) :
    (v.set i b)[j] = if i = j then b else v[j] := by
  simp [Vector.getElem_set, Fin.ext_iff]

/-- A register reads as it was last written, and a write changes no other (10_state.md R11). -/
theorem State.reg_setReg (s : State) (x y : Reg) (b : Byte) : (s.setReg x b).reg y = if x = y then b else s.reg y :=
  vector_get_set s.v x y b

@[simp] theorem State.reg_setReg_same (s : State) (x : Reg) (b : Byte) : (s.setReg x b).reg x = b := by
  simp [State.reg_setReg]

theorem State.reg_of_v_eq {s t : State} (h : t.v = s.v) (x : Reg) : t.reg x = s.reg x := by rw [State.reg, h, State.reg]

/-- A result and its flag (41_alu.md R112): VF ends as the flag unless it is also the result's register and the result is
written last; VX ends as the result unless it is VF and the flag is written last; nothing else is written. -/
theorem State.reg_writeResultAndFlag (s : State) (x y : Reg) (r f : Byte) :
    (s.writeResultAndFlag x r f).reg y =
      if y = vf then (if x = vf ∧ s.config.vfWriteOrder = .resultLast then r else f)
      else if y = x then r else s.reg y := by
  unfold State.writeResultAndFlag
  cases s.config.vfWriteOrder <;> simp only [State.reg_setReg] <;> by_cases hy : y = vf <;> by_cases hx : x = y <;>
    simp_all [eq_comm]

/-- A result and its flag change only the registers. -/
theorem State.writeResultAndFlag_eq (s : State) (x : Reg) (r f : Byte) :
    s.writeResultAndFlag x r f = { s with v := (s.writeResultAndFlag x r f).v } := by
  unfold State.writeResultAndFlag
  cases s.config.vfWriteOrder <;> rfl

/-! ### The cost function (46_step_and_tick.md R182, R183, R190) -/

@[simp] theorem Cost.toNat_of (n : Nat) (h : 1 ≤ n) : (Cost.of n).toNat = n := Nat.sub_add_cancel h

/-- No cost is zero (R183). -/
theorem State.costOf_pos (s : State) (i : Instr) (o : CostOutcome) : 1 ≤ s.costOf i o := Nat.le_add_left 1 _

/-- A machine that departs nowhere has the figures of R182. -/
theorem State.costOf_given {s : State} (h : s.config.costs.departures = []) (i : Instr) (o : CostOutcome) :
    s.costOf i o = (givenCost s.config.costs i o).toNat := by
  rw [State.costOf, costFor, h]
  rfl

/-- The instructions and outcomes of the costs are finitely many, as a list: the word gives the instruction. -/
def costKeys : List (Instr × CostOutcome) :=
  (List.range 65536).flatMap fun n => [.done, .saturated, .taken, .notTaken].map fun o => (decode (BitVec.ofNat 16 n), o)

theorem mem_costKeys (w : Word) (o : CostOutcome) : (decode w, o) ∈ costKeys := by
  simp only [costKeys, List.mem_flatMap, List.mem_map, List.mem_range, Prod.mk.injEq]
  exact ⟨w.toNat, w.isLt, o, by cases o <;> simp, by simp, rfl⟩

/-- The first entry of a list made by tabulating a function is an entry of that function. -/
theorem find_tabulated (f : Instr → CostOutcome → Cost) (keys : List (Instr × CostOutcome)) (i : Instr) (o : CostOutcome)
    (h : (i, o) ∈ keys) :
    (keys.map fun k => CostEntry.mk k.1 k.2 (f k.1 k.2)).find? (fun e => decide (e.instr = i ∧ e.outcome = o)) =
      some ⟨i, o, f i o⟩ := by
  induction keys with
  | nil => cases h
  | cons k ks ih =>
    by_cases hk : k.1 = i ∧ k.2 = o
    · simp [hk]
    · have : (i, o) ∈ ks := (List.mem_cons.mp h).resolve_left fun e => hk (by rw [← e]; exact ⟨rfl, rfl⟩)
      simp only [List.map_cons]
      rw [List.find?_cons_of_neg (by simpa using hk), ih this]

/-- The cost functions of the model are all of them: whatever function of the instruction a word holds and of its outcome,
never zero (R183), some cost table is that function (R5, R190). -/
theorem costTable_represents (f : Instr → CostOutcome → Cost) :
    ∃ c : CostTable, ∀ (w : Word) (o : CostOutcome), costFor c (decode w) o = f (decode w) o :=
  ⟨{ departures := costKeys.map fun k => ⟨k.1, k.2, f k.1 k.2⟩ }, fun w o => by
    simp only [costFor, find_tabulated f costKeys (decode w) o (mem_costKeys w o)]⟩

/-! ### The stack (10_state.md R16) -/

theorem State.push_of_lt (s : State) (w : Word) (h : s.sp.val < 16) :
    s.push w = { s with stack := s.stack.set s.sp.val w, sp := ⟨s.sp.val + 1, by omega⟩ } := by
  simp [State.push, h]

theorem State.push_of_full (s : State) (w : Word) (h : s.sp.val = 16) : s.push w = s := by
  simp [State.push, h]

/-- A push changes only the stack and its pointer. -/
theorem State.push_eq (s : State) (w : Word) : s.push w = { s with stack := (s.push w).stack, sp := (s.push w).sp } := by
  unfold State.push
  split <;> rfl

theorem State.top_of_pos (s : State) (k : Fin 16) (h : s.sp.val = k.val + 1) : s.top = some s.stack[k] := by
  simp [State.top, h]

theorem State.top_of_zero (s : State) (h : s.sp.val = 0) : s.top = none := by simp [State.top, h]

/-- A push that is not dropped is what the next pop returns. -/
theorem State.top_push (s : State) (w : Word) (h : s.sp.val < 16) : (s.push w).top = some w := by
  rw [State.push_of_lt s w h]
  simp [State.top]

/-! ### Drawing -/

/-- Recording the collision bit changes at most VF (43_display_blit.md R146). -/
theorem State.recordCollision_eq (s : State) (c : Bool) :
    s.recordCollision c = { s with v := if s.config.collisionToVf then s.v.set vf (flagByte c) else s.v } := by
  unfold State.recordCollision
  split <;> rfl

/-- Drawing a sprite changes only the grid, dirty and the registers (R152). -/
theorem State.drawSprite_eq (s : State) (x y : Reg) (n : Nibble) :
    s.drawSprite x y n = { s with
      grid := (blit (s.spriteColumn x) (s.spriteRow y) (s.bytesAt s.i.toNat n.val) s.grid).1, dirty := true,
      v := if s.config.collisionToVf then
          s.v.set vf (flagByte (blit (s.spriteColumn x) (s.spriteRow y) (s.bytesAt s.i.toNat n.val) s.grid).2)
        else s.v } := by
  unfold State.drawSprite
  rw [State.recordCollision_eq]
  rfl

/-! ### Skips, checks and faults -/

/-- A skip changes only pc, by 2 or 0, and the cost. -/
theorem State.skipIf_eq (s : State) (i : Instr) (c : Bool) :
    s.skipIf i c = { s with pc := if c then s.pc + 2 else s.pc, cost := some (s.costOf i (if c then .taken else .notTaken)) } := by
  unfold State.skipIf
  cases c <;> rfl

theorem State.outOfRange_iff (s : State) (count : Nat) :
    s.outOfRange count = true ↔ 1 ≤ count ∧ 0xFFF < s.i.toNat + (count - 1) := by
  simp [State.outOfRange, inMemory]

/-- The range pre-check: all of the effect or the fault alone (42_index_memory.md R126). -/
theorem State.checked_cases (s : State) (cause : FaultCause) (count : Nat) (e : State) :
    (s.outOfRange count = true ∧ s.checked cause count e = s.dataFault cause) ∨
    (s.outOfRange count = false ∧ s.checked cause count e = e) := by
  unfold State.checked
  cases h : s.outOfRange count <;> simp

theorem State.fetchOutOfRange_iff (s : State) : s.fetchOutOfRange = true ↔ 0xFFF < s.pc.toNat + 1 := by
  simp [State.fetchOutOfRange, inMemory]

theorem State.firstReleased_lt {s : State} {k : Nat} (h : s.firstReleased = some k) : k < 16 :=
  List.mem_range.mp (List.mem_of_find?_eq_some h)

/-! ### The grid (10_state.md R20) -/

/-- A flip toggles the one cell of its index and no other. -/
theorem Grid.cell_flip (g : Grid) {x y : Nat} (hx : x < 64) (hy : y < 32) (x' y' : Nat) :
    (g.flip (y * 64 + x)).cell x' y' = (g.cell x' y' ^^ decide (x' = x ∧ y' = y)) := by
  have hdiv : (y * 64 + x) / 64 = y := by omega
  have hmod : (y * 64 + x) % 64 = x := by omega
  unfold Grid.flip
  simp only [hdiv, hmod]
  rw [dif_pos hy]
  unfold Grid.cell
  by_cases h : y' < 32 ∧ x' < 64
  · rw [dif_pos h, dif_pos h]
    by_cases hyy : y = y'
    · subst hyy
      by_cases hxx : x = x'
      · subst hxx; simp
      · have : ¬x' = x := fun e => hxx e.symm
        simp [hxx, this]
    · have : ¬y' = y := fun e => hyy e.symm
      simp [hyy, this]
  · rw [dif_neg h, dif_neg h]
    simp only [Bool.false_bne, Bool.false_eq, decide_eq_false_iff_not]
    simp
    omega

/-- A cleared grid has no set cell. -/
theorem Grid.cell_clear (x y : Nat) : Grid.clear.cell x y = false := by
  unfold Grid.cell Grid.clear
  split <;> simp

end Sys2Proof.Machine
end

