-- ==== Sys2Proof/Laws/Derived.lean ====
section
/-! SUPPORT. One lemma per field for the operations made of several updates, so that no proof unfolds them. -/

namespace Sys2Proof.Machine

variable (s : State)

/-! ### `State.costOf`: the cost function is read from the configuration alone -/

theorem State.costOf_of_config {s t : State} (h : t.config = s.config) : t.costOf = s.costOf := by
  funext i o
  rw [State.costOf, h, State.costOf]

@[simp] theorem State.setReg_costOf (x : Reg) (b : Byte) : (s.setReg x b).costOf = s.costOf := rfl
@[simp] theorem State.setRegs_costOf (v : Vector Byte 16) : (s.setRegs v).costOf = s.costOf := rfl
@[simp] theorem State.setIndex_costOf (w : Word) : (s.setIndex w).costOf = s.costOf := rfl
@[simp] theorem State.setPc_costOf (w : Word) : (s.setPc w).costOf = s.costOf := rfl
@[simp] theorem State.setDelayTimer_costOf (b : Byte) : (s.setDelayTimer b).costOf = s.costOf := rfl
@[simp] theorem State.setSoundTimer_costOf (b : Byte) : (s.setSoundTimer b).costOf = s.costOf := rfl
@[simp] theorem State.storeBytes_costOf (a : Nat) (bs : List Byte) : (s.storeBytes a bs).costOf = s.costOf := rfl
@[simp] theorem State.setGrid_costOf (g : Grid) : (s.setGrid g).costOf = s.costOf := rfl
@[simp] theorem State.setDirty_costOf (b : Bool) : (s.setDirty b).costOf = s.costOf := rfl
@[simp] theorem State.drawn_costOf : s.drawn.costOf = s.costOf := rfl
@[simp] theorem State.drop_costOf : s.drop.costOf = s.costOf := rfl
@[simp] theorem State.advance_costOf : s.advance.costOf = s.costOf := rfl
@[simp] theorem State.rewind_costOf : s.rewind.costOf = s.costOf := rfl
@[simp] theorem State.clearAll_costOf : s.clearAll.costOf = s.costOf := rfl
@[simp] theorem State.push_costOf (w : Word) : (s.push w).costOf = s.costOf :=
  State.costOf_of_config (by rw [State.push_eq])
@[simp] theorem State.writeResultAndFlag_costOf (x : Reg) (r f : Byte) : (s.writeResultAndFlag x r f).costOf = s.costOf :=
  State.costOf_of_config (by rw [State.writeResultAndFlag_eq])
@[simp] theorem State.drawSprite_costOf (x y : Reg) (n : Nibble) : (s.drawSprite x y n).costOf = s.costOf :=
  State.costOf_of_config (by rw [State.drawSprite_eq])

/-! ### `State.charge` -/

@[simp] theorem State.charge_mem (i : Instr) (o : CostOutcome) : (s.charge i o).mem = s.mem := rfl
@[simp] theorem State.charge_v (i : Instr) (o : CostOutcome) : (s.charge i o).v = s.v := rfl
@[simp] theorem State.charge_i (i : Instr) (o : CostOutcome) : (s.charge i o).i = s.i := rfl
@[simp] theorem State.charge_pc (i : Instr) (o : CostOutcome) : (s.charge i o).pc = s.pc := rfl
@[simp] theorem State.charge_stack (i : Instr) (o : CostOutcome) : (s.charge i o).stack = s.stack := rfl
@[simp] theorem State.charge_sp (i : Instr) (o : CostOutcome) : (s.charge i o).sp = s.sp := rfl
@[simp] theorem State.charge_dt (i : Instr) (o : CostOutcome) : (s.charge i o).dt = s.dt := rfl
@[simp] theorem State.charge_st (i : Instr) (o : CostOutcome) : (s.charge i o).st = s.st := rfl
@[simp] theorem State.charge_grid (i : Instr) (o : CostOutcome) : (s.charge i o).grid = s.grid := rfl
@[simp] theorem State.charge_dirty (i : Instr) (o : CostOutcome) : (s.charge i o).dirty = s.dirty := rfl
@[simp] theorem State.charge_audioPlaying (i : Instr) (o : CostOutcome) : (s.charge i o).audioPlaying = s.audioPlaying := rfl
@[simp] theorem State.charge_halt (i : Instr) (o : CostOutcome) : (s.charge i o).halt = s.halt := rfl
@[simp] theorem State.charge_burst (i : Instr) (o : CostOutcome) : (s.charge i o).burst = s.burst := rfl
@[simp] theorem State.charge_keysDown (i : Instr) (o : CostOutcome) : (s.charge i o).keysDown = s.keysDown := rfl
@[simp] theorem State.charge_keysReleased (i : Instr) (o : CostOutcome) : (s.charge i o).keysReleased = s.keysReleased := rfl
@[simp] theorem State.charge_config (i : Instr) (o : CostOutcome) : (s.charge i o).config = s.config := rfl
@[simp] theorem State.charge_cost (i : Instr) (o : CostOutcome) : (s.charge i o).cost = some (s.costOf i o) := rfl
@[simp] theorem State.charge_frames (i : Instr) (o : CostOutcome) : (s.charge i o).frames = s.frames := rfl
@[simp] theorem State.charge_ticks (i : Instr) (o : CostOutcome) : (s.charge i o).ticks = s.ticks := rfl
@[simp] theorem State.charge_draws (i : Instr) (o : CostOutcome) : (s.charge i o).draws = s.draws := rfl

/-! ### `State.advance` -/

@[simp] theorem State.advance_mem : (s.advance).mem = s.mem := rfl
@[simp] theorem State.advance_v : (s.advance).v = s.v := rfl
@[simp] theorem State.advance_i : (s.advance).i = s.i := rfl
@[simp] theorem State.advance_pc : (s.advance).pc = s.pc + 2 := rfl
@[simp] theorem State.advance_stack : (s.advance).stack = s.stack := rfl
@[simp] theorem State.advance_sp : (s.advance).sp = s.sp := rfl
@[simp] theorem State.advance_dt : (s.advance).dt = s.dt := rfl
@[simp] theorem State.advance_st : (s.advance).st = s.st := rfl
@[simp] theorem State.advance_grid : (s.advance).grid = s.grid := rfl
@[simp] theorem State.advance_dirty : (s.advance).dirty = s.dirty := rfl
@[simp] theorem State.advance_audioPlaying : (s.advance).audioPlaying = s.audioPlaying := rfl
@[simp] theorem State.advance_halt : (s.advance).halt = s.halt := rfl
@[simp] theorem State.advance_burst : (s.advance).burst = s.burst := rfl
@[simp] theorem State.advance_keysDown : (s.advance).keysDown = s.keysDown := rfl
@[simp] theorem State.advance_keysReleased : (s.advance).keysReleased = s.keysReleased := rfl
@[simp] theorem State.advance_config : (s.advance).config = s.config := rfl
@[simp] theorem State.advance_cost : (s.advance).cost = s.cost := rfl
@[simp] theorem State.advance_frames : (s.advance).frames = s.frames := rfl
@[simp] theorem State.advance_ticks : (s.advance).ticks = s.ticks := rfl
@[simp] theorem State.advance_draws : (s.advance).draws = s.draws := rfl

/-! ### `State.rewind` -/

@[simp] theorem State.rewind_mem : (s.rewind).mem = s.mem := rfl
@[simp] theorem State.rewind_v : (s.rewind).v = s.v := rfl
@[simp] theorem State.rewind_i : (s.rewind).i = s.i := rfl
@[simp] theorem State.rewind_pc : (s.rewind).pc = s.pc - 2 := rfl
@[simp] theorem State.rewind_stack : (s.rewind).stack = s.stack := rfl
@[simp] theorem State.rewind_sp : (s.rewind).sp = s.sp := rfl
@[simp] theorem State.rewind_dt : (s.rewind).dt = s.dt := rfl
@[simp] theorem State.rewind_st : (s.rewind).st = s.st := rfl
@[simp] theorem State.rewind_grid : (s.rewind).grid = s.grid := rfl
@[simp] theorem State.rewind_dirty : (s.rewind).dirty = s.dirty := rfl
@[simp] theorem State.rewind_audioPlaying : (s.rewind).audioPlaying = s.audioPlaying := rfl
@[simp] theorem State.rewind_halt : (s.rewind).halt = s.halt := rfl
@[simp] theorem State.rewind_burst : (s.rewind).burst = s.burst := rfl
@[simp] theorem State.rewind_keysDown : (s.rewind).keysDown = s.keysDown := rfl
@[simp] theorem State.rewind_keysReleased : (s.rewind).keysReleased = s.keysReleased := rfl
@[simp] theorem State.rewind_config : (s.rewind).config = s.config := rfl
@[simp] theorem State.rewind_cost : (s.rewind).cost = s.cost := rfl
@[simp] theorem State.rewind_frames : (s.rewind).frames = s.frames := rfl
@[simp] theorem State.rewind_ticks : (s.rewind).ticks = s.ticks := rfl
@[simp] theorem State.rewind_draws : (s.rewind).draws = s.draws := rfl

/-! ### `State.clearAll` -/

@[simp] theorem State.clearAll_mem : (s.clearAll).mem = s.mem := rfl
@[simp] theorem State.clearAll_v : (s.clearAll).v = s.v := rfl
@[simp] theorem State.clearAll_i : (s.clearAll).i = s.i := rfl
@[simp] theorem State.clearAll_pc : (s.clearAll).pc = s.pc := rfl
@[simp] theorem State.clearAll_stack : (s.clearAll).stack = s.stack := rfl
@[simp] theorem State.clearAll_sp : (s.clearAll).sp = s.sp := rfl
@[simp] theorem State.clearAll_dt : (s.clearAll).dt = s.dt := rfl
@[simp] theorem State.clearAll_st : (s.clearAll).st = s.st := rfl
@[simp] theorem State.clearAll_grid : (s.clearAll).grid = Grid.clear := rfl
@[simp] theorem State.clearAll_dirty : (s.clearAll).dirty = true := rfl
@[simp] theorem State.clearAll_audioPlaying : (s.clearAll).audioPlaying = s.audioPlaying := rfl
@[simp] theorem State.clearAll_halt : (s.clearAll).halt = s.halt := rfl
@[simp] theorem State.clearAll_burst : (s.clearAll).burst = s.burst := rfl
@[simp] theorem State.clearAll_keysDown : (s.clearAll).keysDown = s.keysDown := rfl
@[simp] theorem State.clearAll_keysReleased : (s.clearAll).keysReleased = s.keysReleased := rfl
@[simp] theorem State.clearAll_config : (s.clearAll).config = s.config := rfl
@[simp] theorem State.clearAll_cost : (s.clearAll).cost = s.cost := rfl
@[simp] theorem State.clearAll_frames : (s.clearAll).frames = s.frames := rfl
@[simp] theorem State.clearAll_ticks : (s.clearAll).ticks = s.ticks := rfl
@[simp] theorem State.clearAll_draws : (s.clearAll).draws = s.draws := rfl

/-! ### `State.dataFault` -/

@[simp] theorem State.dataFault_mem (k : FaultCause) : (s.dataFault k).mem = s.mem := rfl
@[simp] theorem State.dataFault_v (k : FaultCause) : (s.dataFault k).v = s.v := rfl
@[simp] theorem State.dataFault_i (k : FaultCause) : (s.dataFault k).i = s.i := rfl
@[simp] theorem State.dataFault_pc (k : FaultCause) : (s.dataFault k).pc = s.pc := rfl
@[simp] theorem State.dataFault_stack (k : FaultCause) : (s.dataFault k).stack = s.stack := rfl
@[simp] theorem State.dataFault_sp (k : FaultCause) : (s.dataFault k).sp = s.sp := rfl
@[simp] theorem State.dataFault_dt (k : FaultCause) : (s.dataFault k).dt = s.dt := rfl
@[simp] theorem State.dataFault_st (k : FaultCause) : (s.dataFault k).st = s.st := rfl
@[simp] theorem State.dataFault_grid (k : FaultCause) : (s.dataFault k).grid = s.grid := rfl
@[simp] theorem State.dataFault_dirty (k : FaultCause) : (s.dataFault k).dirty = s.dirty := rfl
@[simp] theorem State.dataFault_audioPlaying (k : FaultCause) : (s.dataFault k).audioPlaying = s.audioPlaying := rfl
@[simp] theorem State.dataFault_halt (k : FaultCause) :
    (s.dataFault k).halt = some ⟨k, max s.i.toNat 0x1000, s.pc - 2⟩ := rfl
@[simp] theorem State.dataFault_burst (k : FaultCause) : (s.dataFault k).burst = s.burst := rfl
@[simp] theorem State.dataFault_keysDown (k : FaultCause) : (s.dataFault k).keysDown = s.keysDown := rfl
@[simp] theorem State.dataFault_keysReleased (k : FaultCause) : (s.dataFault k).keysReleased = s.keysReleased := rfl
@[simp] theorem State.dataFault_config (k : FaultCause) : (s.dataFault k).config = s.config := rfl
@[simp] theorem State.dataFault_cost (k : FaultCause) : (s.dataFault k).cost = none := rfl
@[simp] theorem State.dataFault_frames (k : FaultCause) : (s.dataFault k).frames = s.frames := rfl
@[simp] theorem State.dataFault_ticks (k : FaultCause) : (s.dataFault k).ticks = s.ticks := rfl
@[simp] theorem State.dataFault_draws (k : FaultCause) : (s.dataFault k).draws = s.draws := rfl

/-! ### `State.fetchFault` -/

@[simp] theorem State.fetchFault_mem : (s.fetchFault).mem = s.mem := rfl
@[simp] theorem State.fetchFault_v : (s.fetchFault).v = s.v := rfl
@[simp] theorem State.fetchFault_i : (s.fetchFault).i = s.i := rfl
@[simp] theorem State.fetchFault_pc : (s.fetchFault).pc = s.pc := rfl
@[simp] theorem State.fetchFault_stack : (s.fetchFault).stack = s.stack := rfl
@[simp] theorem State.fetchFault_sp : (s.fetchFault).sp = s.sp := rfl
@[simp] theorem State.fetchFault_dt : (s.fetchFault).dt = s.dt := rfl
@[simp] theorem State.fetchFault_st : (s.fetchFault).st = s.st := rfl
@[simp] theorem State.fetchFault_grid : (s.fetchFault).grid = s.grid := rfl
@[simp] theorem State.fetchFault_dirty : (s.fetchFault).dirty = s.dirty := rfl
@[simp] theorem State.fetchFault_audioPlaying : (s.fetchFault).audioPlaying = s.audioPlaying := rfl
@[simp] theorem State.fetchFault_halt : (s.fetchFault).halt = some ⟨.fetch, max s.pc.toNat 0x1000, s.pc⟩ := rfl
@[simp] theorem State.fetchFault_burst : (s.fetchFault).burst = s.burst := rfl
@[simp] theorem State.fetchFault_keysDown : (s.fetchFault).keysDown = s.keysDown := rfl
@[simp] theorem State.fetchFault_keysReleased : (s.fetchFault).keysReleased = s.keysReleased := rfl
@[simp] theorem State.fetchFault_config : (s.fetchFault).config = s.config := rfl
@[simp] theorem State.fetchFault_cost : (s.fetchFault).cost = none := rfl
@[simp] theorem State.fetchFault_frames : (s.fetchFault).frames = s.frames := rfl
@[simp] theorem State.fetchFault_ticks : (s.fetchFault).ticks = s.ticks := rfl
@[simp] theorem State.fetchFault_draws : (s.fetchFault).draws = s.draws := rfl

/-! ### `State.skipIf` -/

@[simp] theorem State.skipIf_mem (i : Instr) (c : Bool) : (s.skipIf i c).mem = s.mem := by cases c <;> rfl
@[simp] theorem State.skipIf_v (i : Instr) (c : Bool) : (s.skipIf i c).v = s.v := by cases c <;> rfl
@[simp] theorem State.skipIf_i (i : Instr) (c : Bool) : (s.skipIf i c).i = s.i := by cases c <;> rfl
@[simp] theorem State.skipIf_pc (i : Instr) (c : Bool) : (s.skipIf i c).pc = if c then s.pc + 2 else s.pc := by cases c <;> rfl
@[simp] theorem State.skipIf_stack (i : Instr) (c : Bool) : (s.skipIf i c).stack = s.stack := by cases c <;> rfl
@[simp] theorem State.skipIf_sp (i : Instr) (c : Bool) : (s.skipIf i c).sp = s.sp := by cases c <;> rfl
@[simp] theorem State.skipIf_dt (i : Instr) (c : Bool) : (s.skipIf i c).dt = s.dt := by cases c <;> rfl
@[simp] theorem State.skipIf_st (i : Instr) (c : Bool) : (s.skipIf i c).st = s.st := by cases c <;> rfl
@[simp] theorem State.skipIf_grid (i : Instr) (c : Bool) : (s.skipIf i c).grid = s.grid := by cases c <;> rfl
@[simp] theorem State.skipIf_dirty (i : Instr) (c : Bool) : (s.skipIf i c).dirty = s.dirty := by cases c <;> rfl
@[simp] theorem State.skipIf_audioPlaying (i : Instr) (c : Bool) :
    (s.skipIf i c).audioPlaying = s.audioPlaying := by cases c <;> rfl
@[simp] theorem State.skipIf_halt (i : Instr) (c : Bool) : (s.skipIf i c).halt = s.halt := by cases c <;> rfl
@[simp] theorem State.skipIf_burst (i : Instr) (c : Bool) : (s.skipIf i c).burst = s.burst := by cases c <;> rfl
@[simp] theorem State.skipIf_keysDown (i : Instr) (c : Bool) : (s.skipIf i c).keysDown = s.keysDown := by cases c <;> rfl
@[simp] theorem State.skipIf_keysReleased (i : Instr) (c : Bool) :
    (s.skipIf i c).keysReleased = s.keysReleased := by cases c <;> rfl
@[simp] theorem State.skipIf_config (i : Instr) (c : Bool) : (s.skipIf i c).config = s.config := by cases c <;> rfl
@[simp] theorem State.skipIf_cost (i : Instr) (c : Bool) :
    (s.skipIf i c).cost = some (s.costOf i (if c then .taken else .notTaken)) := by cases c <;> rfl
@[simp] theorem State.skipIf_frames (i : Instr) (c : Bool) : (s.skipIf i c).frames = s.frames := by cases c <;> rfl
@[simp] theorem State.skipIf_ticks (i : Instr) (c : Bool) : (s.skipIf i c).ticks = s.ticks := by cases c <;> rfl
@[simp] theorem State.skipIf_draws (i : Instr) (c : Bool) : (s.skipIf i c).draws = s.draws := by cases c <;> rfl

/-! ### `State.push` -/

@[simp] theorem State.push_mem (w : Word) : (s.push w).mem = s.mem := by rw [State.push_eq]
@[simp] theorem State.push_v (w : Word) : (s.push w).v = s.v := by rw [State.push_eq]
@[simp] theorem State.push_i (w : Word) : (s.push w).i = s.i := by rw [State.push_eq]
@[simp] theorem State.push_pc (w : Word) : (s.push w).pc = s.pc := by rw [State.push_eq]
@[simp] theorem State.push_dt (w : Word) : (s.push w).dt = s.dt := by rw [State.push_eq]
@[simp] theorem State.push_st (w : Word) : (s.push w).st = s.st := by rw [State.push_eq]
@[simp] theorem State.push_grid (w : Word) : (s.push w).grid = s.grid := by rw [State.push_eq]
@[simp] theorem State.push_dirty (w : Word) : (s.push w).dirty = s.dirty := by rw [State.push_eq]
@[simp] theorem State.push_audioPlaying (w : Word) : (s.push w).audioPlaying = s.audioPlaying := by rw [State.push_eq]
@[simp] theorem State.push_halt (w : Word) : (s.push w).halt = s.halt := by rw [State.push_eq]
@[simp] theorem State.push_burst (w : Word) : (s.push w).burst = s.burst := by rw [State.push_eq]
@[simp] theorem State.push_keysDown (w : Word) : (s.push w).keysDown = s.keysDown := by rw [State.push_eq]
@[simp] theorem State.push_keysReleased (w : Word) : (s.push w).keysReleased = s.keysReleased := by rw [State.push_eq]
@[simp] theorem State.push_config (w : Word) : (s.push w).config = s.config := by rw [State.push_eq]
@[simp] theorem State.push_cost (w : Word) : (s.push w).cost = s.cost := by rw [State.push_eq]
@[simp] theorem State.push_frames (w : Word) : (s.push w).frames = s.frames := by rw [State.push_eq]
@[simp] theorem State.push_ticks (w : Word) : (s.push w).ticks = s.ticks := by rw [State.push_eq]
@[simp] theorem State.push_draws (w : Word) : (s.push w).draws = s.draws := by rw [State.push_eq]

/-! ### `State.writeResultAndFlag` -/

@[simp] theorem State.writeResultAndFlag_mem (x : Reg) (r f : Byte) :
    (s.writeResultAndFlag x r f).mem = s.mem := by rw [State.writeResultAndFlag_eq]
@[simp] theorem State.writeResultAndFlag_i (x : Reg) (r f : Byte) :
    (s.writeResultAndFlag x r f).i = s.i := by rw [State.writeResultAndFlag_eq]
@[simp] theorem State.writeResultAndFlag_pc (x : Reg) (r f : Byte) :
    (s.writeResultAndFlag x r f).pc = s.pc := by rw [State.writeResultAndFlag_eq]
@[simp] theorem State.writeResultAndFlag_stack (x : Reg) (r f : Byte) :
    (s.writeResultAndFlag x r f).stack = s.stack := by rw [State.writeResultAndFlag_eq]
@[simp] theorem State.writeResultAndFlag_sp (x : Reg) (r f : Byte) :
    (s.writeResultAndFlag x r f).sp = s.sp := by rw [State.writeResultAndFlag_eq]
@[simp] theorem State.writeResultAndFlag_dt (x : Reg) (r f : Byte) :
    (s.writeResultAndFlag x r f).dt = s.dt := by rw [State.writeResultAndFlag_eq]
@[simp] theorem State.writeResultAndFlag_st (x : Reg) (r f : Byte) :
    (s.writeResultAndFlag x r f).st = s.st := by rw [State.writeResultAndFlag_eq]
@[simp] theorem State.writeResultAndFlag_grid (x : Reg) (r f : Byte) :
    (s.writeResultAndFlag x r f).grid = s.grid := by rw [State.writeResultAndFlag_eq]
@[simp] theorem State.writeResultAndFlag_dirty (x : Reg) (r f : Byte) :
    (s.writeResultAndFlag x r f).dirty = s.dirty := by rw [State.writeResultAndFlag_eq]
@[simp] theorem State.writeResultAndFlag_audioPlaying (x : Reg) (r f : Byte) :
    (s.writeResultAndFlag x r f).audioPlaying = s.audioPlaying := by rw [State.writeResultAndFlag_eq]
@[simp] theorem State.writeResultAndFlag_halt (x : Reg) (r f : Byte) :
    (s.writeResultAndFlag x r f).halt = s.halt := by rw [State.writeResultAndFlag_eq]
@[simp] theorem State.writeResultAndFlag_burst (x : Reg) (r f : Byte) :
    (s.writeResultAndFlag x r f).burst = s.burst := by rw [State.writeResultAndFlag_eq]
@[simp] theorem State.writeResultAndFlag_keysDown (x : Reg) (r f : Byte) :
    (s.writeResultAndFlag x r f).keysDown = s.keysDown := by rw [State.writeResultAndFlag_eq]
@[simp] theorem State.writeResultAndFlag_keysReleased (x : Reg) (r f : Byte) :
    (s.writeResultAndFlag x r f).keysReleased = s.keysReleased := by rw [State.writeResultAndFlag_eq]
@[simp] theorem State.writeResultAndFlag_config (x : Reg) (r f : Byte) :
    (s.writeResultAndFlag x r f).config = s.config := by rw [State.writeResultAndFlag_eq]
@[simp] theorem State.writeResultAndFlag_cost (x : Reg) (r f : Byte) :
    (s.writeResultAndFlag x r f).cost = s.cost := by rw [State.writeResultAndFlag_eq]
@[simp] theorem State.writeResultAndFlag_frames (x : Reg) (r f : Byte) :
    (s.writeResultAndFlag x r f).frames = s.frames := by rw [State.writeResultAndFlag_eq]
@[simp] theorem State.writeResultAndFlag_ticks (x : Reg) (r f : Byte) :
    (s.writeResultAndFlag x r f).ticks = s.ticks := by rw [State.writeResultAndFlag_eq]
@[simp] theorem State.writeResultAndFlag_draws (x : Reg) (r f : Byte) :
    (s.writeResultAndFlag x r f).draws = s.draws := by rw [State.writeResultAndFlag_eq]

/-! ### `State.drawSprite` -/

@[simp] theorem State.drawSprite_mem (x y : Reg) (n : Nibble) :
    (s.drawSprite x y n).mem = s.mem := by rw [State.drawSprite_eq]
@[simp] theorem State.drawSprite_i (x y : Reg) (n : Nibble) :
    (s.drawSprite x y n).i = s.i := by rw [State.drawSprite_eq]
@[simp] theorem State.drawSprite_pc (x y : Reg) (n : Nibble) :
    (s.drawSprite x y n).pc = s.pc := by rw [State.drawSprite_eq]
@[simp] theorem State.drawSprite_stack (x y : Reg) (n : Nibble) :
    (s.drawSprite x y n).stack = s.stack := by rw [State.drawSprite_eq]
@[simp] theorem State.drawSprite_sp (x y : Reg) (n : Nibble) :
    (s.drawSprite x y n).sp = s.sp := by rw [State.drawSprite_eq]
@[simp] theorem State.drawSprite_dt (x y : Reg) (n : Nibble) :
    (s.drawSprite x y n).dt = s.dt := by rw [State.drawSprite_eq]
@[simp] theorem State.drawSprite_st (x y : Reg) (n : Nibble) :
    (s.drawSprite x y n).st = s.st := by rw [State.drawSprite_eq]
@[simp] theorem State.drawSprite_grid (x y : Reg) (n : Nibble) :
    (s.drawSprite x y n).grid =
      (blit (s.spriteColumn x) (s.spriteRow y) (s.bytesAt s.i.toNat n.val) s.grid).1 := by rw [State.drawSprite_eq]
@[simp] theorem State.drawSprite_dirty (x y : Reg) (n : Nibble) :
    (s.drawSprite x y n).dirty = true := by rw [State.drawSprite_eq]
@[simp] theorem State.drawSprite_audioPlaying (x y : Reg) (n : Nibble) :
    (s.drawSprite x y n).audioPlaying = s.audioPlaying := by rw [State.drawSprite_eq]
@[simp] theorem State.drawSprite_halt (x y : Reg) (n : Nibble) :
    (s.drawSprite x y n).halt = s.halt := by rw [State.drawSprite_eq]
@[simp] theorem State.drawSprite_burst (x y : Reg) (n : Nibble) :
    (s.drawSprite x y n).burst = s.burst := by rw [State.drawSprite_eq]
@[simp] theorem State.drawSprite_keysDown (x y : Reg) (n : Nibble) :
    (s.drawSprite x y n).keysDown = s.keysDown := by rw [State.drawSprite_eq]
@[simp] theorem State.drawSprite_keysReleased (x y : Reg) (n : Nibble) :
    (s.drawSprite x y n).keysReleased = s.keysReleased := by rw [State.drawSprite_eq]
@[simp] theorem State.drawSprite_config (x y : Reg) (n : Nibble) :
    (s.drawSprite x y n).config = s.config := by rw [State.drawSprite_eq]
@[simp] theorem State.drawSprite_cost (x y : Reg) (n : Nibble) :
    (s.drawSprite x y n).cost = s.cost := by rw [State.drawSprite_eq]
@[simp] theorem State.drawSprite_frames (x y : Reg) (n : Nibble) :
    (s.drawSprite x y n).frames = s.frames := by rw [State.drawSprite_eq]
@[simp] theorem State.drawSprite_ticks (x y : Reg) (n : Nibble) :
    (s.drawSprite x y n).ticks = s.ticks := by rw [State.drawSprite_eq]
@[simp] theorem State.drawSprite_draws (x y : Reg) (n : Nibble) :
    (s.drawSprite x y n).draws = s.draws := by rw [State.drawSprite_eq]

end Sys2Proof.Machine
end

