-- ==== Sys2Proof/Laws/PerInstr.lean ====
section
/-! SUPPORT. Statements about every instruction, one lemma per constructor.
`EncodedRow`: the word of an instruction is accepted by the row of the opcode map that bears its mnemonic
(30_encoding.md R73); an unmatched term has no such row. -/

namespace Sys2Proof.Laws.EncodedRow

open Sys2Proof

def Statement (i : Instr) : Prop :=
  i.mnemonic = "UNMATCHED" ∨ ∃ r ∈ opcodeRows, r.mnemonic = i.mnemonic ∧ r.accepts (encode i) = true

theorem cls : Statement .cls :=
  .inr ⟨⟨"00E0", 0x00E0, 0xFFFF⟩, by decide, rfl, by decide⟩
theorem ret : Statement .ret :=
  .inr ⟨⟨"00EE", 0x00EE, 0xFFFF⟩, by decide, rfl, by decide⟩
theorem jump (nnn : Addr12) : Statement (.jump nnn) :=
  .inr ⟨⟨"1NNN", 0x1000, 0xF000⟩, by decide, rfl, (accepts_group _ _ _).mpr (by simp [encode])⟩
theorem call (nnn : Addr12) : Statement (.call nnn) :=
  .inr ⟨⟨"2NNN", 0x2000, 0xF000⟩, by decide, rfl, (accepts_group _ _ _).mpr (by simp [encode])⟩
theorem skipEqImm (x : Reg) (nn : Byte) : Statement (.skipEqImm x nn) :=
  .inr ⟨⟨"3XNN", 0x3000, 0xF000⟩, by decide, rfl, (accepts_group _ _ _).mpr (by simp [encode])⟩
theorem skipNeImm (x : Reg) (nn : Byte) : Statement (.skipNeImm x nn) :=
  .inr ⟨⟨"4XNN", 0x4000, 0xF000⟩, by decide, rfl, (accepts_group _ _ _).mpr (by simp [encode])⟩
theorem skipEqReg (x y : Reg) (n : Nibble) : Statement (.skipEqReg x y n) :=
  .inr ⟨⟨"5XY0", 0x5000, 0xF000⟩, by decide, rfl, (accepts_group _ _ _).mpr (by simp [encode])⟩
theorem setImm (x : Reg) (nn : Byte) : Statement (.setImm x nn) :=
  .inr ⟨⟨"6XNN", 0x6000, 0xF000⟩, by decide, rfl, (accepts_group _ _ _).mpr (by simp [encode])⟩
theorem addImm (x : Reg) (nn : Byte) : Statement (.addImm x nn) :=
  .inr ⟨⟨"7XNN", 0x7000, 0xF000⟩, by decide, rfl, (accepts_group _ _ _).mpr (by simp [encode])⟩
theorem copy (x y : Reg) : Statement (.copy x y) :=
  .inr ⟨⟨"8XY0", 0x8000, 0xF00F⟩, by decide, rfl, (accepts_groupN _ _ _).mpr (by simp [encode])⟩
theorem or (x y : Reg) : Statement (.or x y) :=
  .inr ⟨⟨"8XY1", 0x8001, 0xF00F⟩, by decide, rfl, (accepts_groupN _ _ _).mpr (by simp [encode])⟩
theorem and (x y : Reg) : Statement (.and x y) :=
  .inr ⟨⟨"8XY2", 0x8002, 0xF00F⟩, by decide, rfl, (accepts_groupN _ _ _).mpr (by simp [encode])⟩
theorem xor (x y : Reg) : Statement (.xor x y) :=
  .inr ⟨⟨"8XY3", 0x8003, 0xF00F⟩, by decide, rfl, (accepts_groupN _ _ _).mpr (by simp [encode])⟩
theorem add (x y : Reg) : Statement (.add x y) :=
  .inr ⟨⟨"8XY4", 0x8004, 0xF00F⟩, by decide, rfl, (accepts_groupN _ _ _).mpr (by simp [encode])⟩
theorem sub (x y : Reg) : Statement (.sub x y) :=
  .inr ⟨⟨"8XY5", 0x8005, 0xF00F⟩, by decide, rfl, (accepts_groupN _ _ _).mpr (by simp [encode])⟩
theorem shr (x y : Reg) : Statement (.shr x y) :=
  .inr ⟨⟨"8XY6", 0x8006, 0xF00F⟩, by decide, rfl, (accepts_groupN _ _ _).mpr (by simp [encode])⟩
theorem subn (x y : Reg) : Statement (.subn x y) :=
  .inr ⟨⟨"8XY7", 0x8007, 0xF00F⟩, by decide, rfl, (accepts_groupN _ _ _).mpr (by simp [encode])⟩
theorem shl (x y : Reg) : Statement (.shl x y) :=
  .inr ⟨⟨"8XYE", 0x800E, 0xF00F⟩, by decide, rfl, (accepts_groupN _ _ _).mpr (by simp [encode])⟩
theorem skipNeReg (x y : Reg) (n : Nibble) : Statement (.skipNeReg x y n) :=
  .inr ⟨⟨"9XY0", 0x9000, 0xF000⟩, by decide, rfl, (accepts_group _ _ _).mpr (by simp [encode])⟩
theorem setIndex (nnn : Addr12) : Statement (.setIndex nnn) :=
  .inr ⟨⟨"ANNN", 0xA000, 0xF000⟩, by decide, rfl, (accepts_group _ _ _).mpr (by simp [encode])⟩
theorem jumpV0 (nnn : Addr12) : Statement (.jumpV0 nnn) :=
  .inr ⟨⟨"BNNN", 0xB000, 0xF000⟩, by decide, rfl, (accepts_group _ _ _).mpr (by simp [encode])⟩
theorem random (x : Reg) (nn : Byte) : Statement (.random x nn) :=
  .inr ⟨⟨"CXNN", 0xC000, 0xF000⟩, by decide, rfl, (accepts_group _ _ _).mpr (by simp [encode])⟩
theorem draw (x y : Reg) (n : Nibble) : Statement (.draw x y n) :=
  .inr ⟨⟨"DXYN", 0xD000, 0xF000⟩, by decide, rfl, (accepts_group _ _ _).mpr (by simp [encode])⟩
theorem skipKey (x : Reg) : Statement (.skipKey x) :=
  .inr ⟨⟨"EX9E", 0xE09E, 0xF0FF⟩, by decide, rfl, (accepts_groupNN _ _ _).mpr (by simp [encode])⟩
theorem skipNoKey (x : Reg) : Statement (.skipNoKey x) :=
  .inr ⟨⟨"EXA1", 0xE0A1, 0xF0FF⟩, by decide, rfl, (accepts_groupNN _ _ _).mpr (by simp [encode])⟩
theorem readDelay (x : Reg) : Statement (.readDelay x) :=
  .inr ⟨⟨"FX07", 0xF007, 0xF0FF⟩, by decide, rfl, (accepts_groupNN _ _ _).mpr (by simp [encode])⟩
theorem waitKey (x : Reg) : Statement (.waitKey x) :=
  .inr ⟨⟨"FX0A", 0xF00A, 0xF0FF⟩, by decide, rfl, (accepts_groupNN _ _ _).mpr (by simp [encode])⟩
theorem setDelay (x : Reg) : Statement (.setDelay x) :=
  .inr ⟨⟨"FX15", 0xF015, 0xF0FF⟩, by decide, rfl, (accepts_groupNN _ _ _).mpr (by simp [encode])⟩
theorem setSound (x : Reg) : Statement (.setSound x) :=
  .inr ⟨⟨"FX18", 0xF018, 0xF0FF⟩, by decide, rfl, (accepts_groupNN _ _ _).mpr (by simp [encode])⟩
theorem addIndex (x : Reg) : Statement (.addIndex x) :=
  .inr ⟨⟨"FX1E", 0xF01E, 0xF0FF⟩, by decide, rfl, (accepts_groupNN _ _ _).mpr (by simp [encode])⟩
theorem fontIndex (x : Reg) : Statement (.fontIndex x) :=
  .inr ⟨⟨"FX29", 0xF029, 0xF0FF⟩, by decide, rfl, (accepts_groupNN _ _ _).mpr (by simp [encode])⟩
theorem bcd (x : Reg) : Statement (.bcd x) :=
  .inr ⟨⟨"FX33", 0xF033, 0xF0FF⟩, by decide, rfl, (accepts_groupNN _ _ _).mpr (by simp [encode])⟩
theorem store (x : Reg) : Statement (.store x) :=
  .inr ⟨⟨"FX55", 0xF055, 0xF0FF⟩, by decide, rfl, (accepts_groupNN _ _ _).mpr (by simp [encode])⟩
theorem load (x : Reg) : Statement (.load x) :=
  .inr ⟨⟨"FX65", 0xF065, 0xF0FF⟩, by decide, rfl, (accepts_groupNN _ _ _).mpr (by simp [encode])⟩
theorem unmatched (w : Word) : Statement (.unmatched w) :=
  .inl rfl

end Sys2Proof.Laws.EncodedRow
end

