-- ==== Sys2Proof/Laws/Step.lean ====
section
/-! SUPPORT. What the start of a tick changes, what an instruction's answer looks like, and the cases of one step. -/

namespace Sys2Proof.Machine

/-! ### The start of a tick -/

/-- The audio bit after the toggle says whether the sound timer runs
(46_step_and_tick.md R185, D21), and nothing else changes. -/
theorem State.toggleAudio_eq (s : State) : s.toggleAudio = { s with audioPlaying := decide (s.st ≠ 0) } := by
  obtain ⟨mem, v, i, pc, stack, sp, dt, st, grid, dirty, audio, halt⟩ := s
  by_cases h : st = 0#8 <;> cases audio <;> simp [State.toggleAudio, h]

theorem decayed_toNat (b : Byte) : (decayed b).toNat = b.toNat - 1 := by
  unfold decayed
  split
  · rw [BitVec.toNat_sub]
    have := b.isLt
    simp
    omega
  · omega

/-- The whole start of a tick as one update. -/
theorem State.beginTick_eq (s : State) : s.beginTick =
    { s with
      keysDown := s.nextFrame.keysDown, keysReleased := s.nextFrame.keysReleased,
      dirty := s.dirty && !s.nextFrame.clearDirty,
      dt := decayed s.dt, st := decayed s.st, audioPlaying := decide (decayed s.st ≠ 0),
      frames := s.frames.tail, ticks := s.ticks + 1, burst := some 0 } := by
  unfold State.beginTick
  rw [State.toggleAudio_eq]
  rfl

/-- Entering a burst touches no register, no memory, no grid, no stack, no latch and no configuration. -/
theorem State.enterBurst_untouched (s : State) :
    s.enterBurst.mem = s.mem ∧ s.enterBurst.v = s.v ∧ s.enterBurst.i = s.i ∧ s.enterBurst.pc = s.pc ∧
    s.enterBurst.stack = s.stack ∧ s.enterBurst.sp = s.sp ∧ s.enterBurst.grid = s.grid ∧ s.enterBurst.halt = s.halt ∧
    s.enterBurst.config = s.config ∧ s.enterBurst.cost = s.cost ∧ s.enterBurst.draws = s.draws := by
  unfold State.enterBurst
  split
  · simp
  · rw [State.beginTick_eq]; simp

section
variable (s : State)
@[simp] theorem State.enterBurst_mem : s.enterBurst.mem = s.mem := s.enterBurst_untouched.1
@[simp] theorem State.enterBurst_v : s.enterBurst.v = s.v := s.enterBurst_untouched.2.1
@[simp] theorem State.enterBurst_i : s.enterBurst.i = s.i := s.enterBurst_untouched.2.2.1
@[simp] theorem State.enterBurst_pc : s.enterBurst.pc = s.pc := s.enterBurst_untouched.2.2.2.1
@[simp] theorem State.enterBurst_stack : s.enterBurst.stack = s.stack := s.enterBurst_untouched.2.2.2.2.1
@[simp] theorem State.enterBurst_sp : s.enterBurst.sp = s.sp := s.enterBurst_untouched.2.2.2.2.2.1
@[simp] theorem State.enterBurst_grid : s.enterBurst.grid = s.grid := s.enterBurst_untouched.2.2.2.2.2.2.1
@[simp] theorem State.enterBurst_halt : s.enterBurst.halt = s.halt := s.enterBurst_untouched.2.2.2.2.2.2.2.1
@[simp] theorem State.enterBurst_config : s.enterBurst.config = s.config := s.enterBurst_untouched.2.2.2.2.2.2.2.2.1
@[simp] theorem State.enterBurst_draws : s.enterBurst.draws = s.draws := s.enterBurst_untouched.2.2.2.2.2.2.2.2.2.2
end

theorem State.enterBurst_of_some {s : State} {acc : Nat} (h : s.burst = some acc) : s.enterBurst = s := by
  simp [State.enterBurst, h]

theorem State.enterBurst_of_none {s : State} (h : s.burst = none) : s.enterBurst = s.beginTick := by
  simp [State.enterBurst, h]

/-- Inside a step a burst is in progress, with an accumulator that starts at 0. -/
theorem State.enterBurst_burst (s : State) : s.enterBurst.burst = some (s.burst.getD 0) := by
  cases h : s.burst with
  | some acc => rw [State.enterBurst_of_some h, h]; rfl
  | none => rw [State.enterBurst_of_none h, State.beginTick_eq]; rfl

@[simp] theorem State.enterBurst_fetchOutOfRange (s : State) : s.enterBurst.fetchOutOfRange = s.fetchOutOfRange := by
  simp [State.fetchOutOfRange]

@[simp] theorem State.enterBurst_fetchWord (s : State) : s.enterBurst.fetchWord = s.fetchWord := by
  simp [State.fetchWord, State.byteAt]

/-! ### Answers -/

/-- Every instruction answers a next state, whatever the state (00_scope.md R8). -/
theorem exec_answers_next (i : Instr) (s : State) : ∃ t, exec i s = .next t := by
  cases i <;> exact ⟨_, rfl⟩

@[simp] theorem accounted_next (t : State) : accounted (.next t) = .next t.account := rfl

/-- The cases of one instruction of a machine that is not halted. -/
theorem runInstruction_cases {s : State} (h : s.halt = none) :
    (s.fetchOutOfRange = true ∧ runInstruction s = .next s.fetchFault) ∨
    (s.fetchOutOfRange = false ∧ ∃ t, exec (decode s.fetchWord) s.advance = .next t ∧ runInstruction s = .next t) := by
  unfold runInstruction
  cases hf : s.fetchOutOfRange with
  | true => simp [h]
  | false =>
    obtain ⟨t, ht⟩ := exec_answers_next (decode s.fetchWord) s.advance
    exact .inr ⟨rfl, t, ht, by simp [h, ht]⟩

/-- A step of a machine that is not halted. -/
theorem step_of_running {s : State} (h : s.halt = none) : step s = accounted (runInstruction s.enterBurst) := by
  simp [step, h]

/-- The cases of one step that answers `t`: a halted machine, a fetch fault, or the decoded instruction. -/
theorem step_cases {s t : State} (h : step s = .next t) :
    (s.halt.isSome = true ∧ t = s.report 0) ∨
    (s.halt = none ∧ s.fetchOutOfRange = true ∧ t = s.enterBurst.fetchFault.account) ∨
    (s.halt = none ∧ s.fetchOutOfRange = false ∧
      ∃ u, exec (decode s.fetchWord) s.enterBurst.advance = .next u ∧ t = u.account) := by
  cases hs : s.halt with
  | some r =>
    simp [step, runInstruction, hs] at h
    exact .inl ⟨rfl, h.symm⟩
  | none =>
    have he : s.enterBurst.halt = none := by simp [hs]
    simp only [step, hs, Option.isSome_none, Bool.false_eq_true, if_false] at h
    rcases runInstruction_cases he with ⟨hf, hr⟩ | ⟨hf, u, hu, hr⟩
    · rw [hr, accounted_next] at h
      injection h with h
      exact .inr (.inl ⟨rfl, by simpa using hf, h.symm⟩)
    · rw [hr, accounted_next] at h
      injection h with h
      exact .inr (.inr ⟨rfl, by simpa using hf, u, by simpa using hu, h.symm⟩)

/-! ### Runs -/

theorem core_run_zero (s : State) : core.run 0 s = .next s := rfl

/-- A run goes on from the state its first step answers. -/
theorem core_run_succ {s t : State} (k : Nat) (h : step s = .next t) : core.run (k + 1) s = core.run k t := by
  have h' : core.step s = .next t := h
  simp only [Host.Core.run, h']

end Sys2Proof.Machine
end

