-- ==== Sys2Proof/Tests/Slice0.lean ====
section
/-! SUPPORT. Tests. Expected results are the words of 30_encoding.md R62 to R73 and the vectors of 95_test_vectors.md,
named in each comment; none is the model's own answer. -/

namespace Sys2Proof.Tests

open Sys2Proof Sys2Proof.Machine

/-! ### WellFormed: one ill-formed term for each clause of R71, refused -/

theorem test_wf_group0 : (Instr.unmatched 0x00EE).wf = false := by decide
theorem test_wf_group8 : (Instr.unmatched 0x8127).wf = false := by decide
theorem test_wf_groupE : (Instr.unmatched 0xE19E).wf = false := by decide
theorem test_wf_groupF : (Instr.unmatched 0xF365).wf = false := by decide
theorem test_wf_other_group : (Instr.unmatched 0x1234).wf = false := by decide
theorem test_wf_unmatched : (Instr.unmatched 0x8128).wf = true := by decide

/-! ### Decode: every constructor, each word put together by hand from the pattern of R73 -/

theorem test_decode_control :
    decode 0b0000000011100000 = .cls ∧ decode 0b0000000011101110 = .ret ∧
    decode 0b0001101010111100 = .jump 0xABC ∧ decode 0b0010001100000000 = .call 0x300 ∧
    decode 0b0011001100000111 = .skipEqImm 3 0x07 ∧ decode 0b0100001100001000 = .skipNeImm 3 0x08 ∧
    decode 0b0101000100100111 = .skipEqReg 1 2 7 ∧ decode 0b1001000100101111 = .skipNeReg 1 2 15 ∧
    decode 0b1011001100000000 = .jumpV0 0x300 ∧ decode 0b1000000100101000 = .unmatched 0x8128 := by decide

theorem test_decode_alu :
    decode 0b0110101011111111 = .setImm 10 0xFF ∧ decode 0b0111001000000011 = .addImm 2 0x03 ∧
    decode 0b1000000100100000 = .copy 1 2 ∧ decode 0b1000000100100001 = .or 1 2 ∧
    decode 0b1000000100100010 = .and 1 2 ∧ decode 0b1000000100100011 = .xor 1 2 ∧
    decode 0b1000101010110100 = .add 10 11 ∧ decode 0b1000000100100101 = .sub 1 2 ∧
    decode 0b1000000100100110 = .shr 1 2 ∧ decode 0b1000000100100111 = .subn 1 2 ∧
    decode 0b1000000100101110 = .shl 1 2 ∧ decode 0b1100001100001111 = .random 3 0x0F := by decide

theorem test_decode_index_display :
    decode 0b1010001011110000 = .setIndex 0x2F0 ∧ decode 0b1101000100100101 = .draw 1 2 5 ∧
    decode 0b1111001000011110 = .addIndex 2 ∧ decode 0b1111001100101001 = .fontIndex 3 ∧
    decode 0b1111010100110011 = .bcd 5 ∧ decode 0b1111000101010101 = .store 1 ∧
    decode 0b1111001001100101 = .load 2 := by decide

theorem test_decode_timers_keys :
    decode 0b1110000110011110 = .skipKey 1 ∧ decode 0b1110000110100001 = .skipNoKey 1 ∧
    decode 0b1111001100000111 = .readDelay 3 ∧ decode 0b1111001100001010 = .waitKey 3 ∧
    decode 0b1111001100010101 = .setDelay 3 ∧ decode 0b1111001100011000 = .setSound 3 := by decide

/-- Vectors T-D5, T-D6, T-D10, T-D11, T-D12: unmatched words. -/
theorem test_decode_unmatched :
    decode 0x01E0 = .unmatched 0x01E0 ∧ decode 0x0000 = .unmatched 0x0000 ∧ decode 0x812F = .unmatched 0x812F ∧
    decode 0xE19F = .unmatched 0xE19F ∧ decode 0xF075 = .unmatched 0xF075 := by decide

/-- Vector T-D14: bytes 12 34 are the word 0x1234, a jump to 0x234; one byte alone is truncated. -/
theorem test_decode_bytes :
    decodeBytes [0x12, 0x34, 0x56] = .ok (.jump 0x234, [0x56]) ∧ decodeBytes [0x12] = .error .truncated := by decide

theorem test_decodeTableWord :
    decodeTableWord 16 0xD125 = some (.draw 1 2 5) ∧ decodeTableWord 16 0x00E0 = some .cls ∧
    decodeTableWord 32 0xD125 = none := by decide

/-! ### One step of one instruction -/

/-- A machine in the middle of a tick, with named registers. -/
def start (regs : List (Reg × Byte)) : State :=
  regs.foldl (fun s r => s.setReg r.1 r.2) { State.reset with burst := some 0 }

/-- The state after one step that runs the word at 0x200. -/
def run (w : Nat) (s : State) : State :=
  match step (s.withFetchWord 16 w) with
  | .next t => t
  | .fault _ => s
  | .refused _ => s

theorem test_cls : let t := run 0x00E0 { start [] with grid := (State.reset.grid.flip 195).flip 1290 }
    t.grid = State.reset.grid ∧ t.dirty = true ∧ t.pc = 0x202 := by decide +kernel -- T-B14
theorem test_ret : let t := run 0x00EE { start [] with sp := 1, stack := State.reset.stack.set 0 0x456 }
    t.pc = 0x456 ∧ t.sp = 0 ∧ t.stack[0] = 0x456 ∧ t.cost = some 105 := by decide -- T-CF4
theorem test_ret_empty : let t := run 0x00EE (start [])
    t.pc = 0x202 ∧ t.sp = 0 ∧ t.cost = some 105 := by decide -- T-CF5
theorem test_jump : (run 0x1ABC (start [])).pc = 0xABC := by decide -- T-CF1
theorem test_call : let t := run 0x2300 (start [])
    t.stack[0] = 0x202 ∧ t.sp = 1 ∧ t.pc = 0x300 ∧ t.cost = some 105 := by decide -- T-CF3
theorem test_call_full : let t := run 0x2300 { start [] with sp := 16, stack := State.reset.stack.set 15 0xABC }
    t.stack[15] = 0xABC ∧ t.sp = 16 ∧ t.pc = 0x300 := by decide -- T-CF6
theorem test_jumpV0 : (run 0xBFFF (start [(0, 0xFF)])).pc = 0x10FE := by decide -- T-CF7
theorem test_skipEqImm : (run 0x3307 (start [(3, 7)])).pc = 0x204 ∧ (run 0x3307 (start [(3, 7)])).cost = some 64 := by decide -- T-CF10
theorem test_skipEqImm_not : (run 0x3308 (start [(3, 7)])).pc = 0x202 ∧ (run 0x3308 (start [(3, 7)])).cost = some 55 := by decide -- T-CF11
theorem test_skipNeImm : (run 0x4308 (start [(3, 7)])).pc = 0x204 := by decide -- T-CF13
theorem test_skipNeImm_not : (run 0x4307 (start [(3, 7)])).pc = 0x202 := by decide -- T-CF12
theorem test_skipEqReg : (run 0x5120 (start [(1, 9), (2, 9)])).pc = 0x204 := by decide -- T-CF14
theorem test_skipEqReg_not : (run 0x5120 (start [(1, 9), (2, 8)])).pc = 0x202 := by decide -- T-CF15
theorem test_skipNeReg : (run 0x9120 (start [(1, 9), (2, 8)])).pc = 0x204 := by decide -- T-CF17
theorem test_skipNeReg_not : (run 0x9120 (start [(1, 9), (2, 9)])).pc = 0x202 := by decide -- T-CF18
theorem test_unmatched : let t := run 0x8128 (start [])
    t.pc = 0x202 ∧ t.cost = some 0 ∧ t.burst = none := by decide -- T-CF19

theorem test_setImm : (run 0x6F12 (start [])).reg 15 = 0x12 := by decide -- T-A2
theorem test_addImm : let t := run 0x7203 (start [(2, 0xFE)])
    t.reg 2 = 0x01 ∧ t.reg 15 = 0 ∧ t.cost = some 45 := by decide -- T-A3
theorem test_addImm_vf : (run 0x7F01 (start [(15, 0xFF)])).reg 15 = 0 := by decide -- T-A4
theorem test_copy : (run 0x8010 (start [(1, 0x33)])).reg 0 = 0x33 := by decide -- T-A5
theorem test_or : let t := run 0x8011 (start [(0, 0xF0), (1, 0x0F), (15, 0x55)])
    t.reg 0 = 0xFF ∧ t.reg 15 = 0x55 := by decide -- T-A6
theorem test_and : (run 0x8012 (start [(0, 0xF3), (1, 0x3C)])).reg 0 = 0x30 := by decide -- T-A7
theorem test_xor : (run 0x8013 (start [(0, 0xFF), (1, 0x0F)])).reg 0 = 0xF0 := by decide -- T-A8
theorem test_add_y_is_vf : let t := run 0x80F4 (start [(0, 0x10), (15, 0x05)])
    t.reg 0 = 0x15 ∧ t.reg 15 = 0 := by decide -- T-A15
theorem test_add_x_is_vf : let s := start [(15, 0xF0), (1, 0x20)]
    (run 0x8F14 s).reg 15 = 0x01 ∧
    (run 0x8F14 { s with config := { vfWriteOrder := .resultLast } }).reg 15 = 0x10 := by decide -- T-A16
theorem test_sub : let t := run 0x8015 (start [(0, 3), (1, 5)])
    t.reg 0 = 0xFE ∧ t.reg 15 = 0 := by decide -- T-A18
theorem test_sub_equal : let t := run 0x8015 (start [(0, 7), (1, 7), (15, 1)])
    t.reg 0 = 0 ∧ t.reg 15 = 0 := by decide -- T-A19
theorem test_shr : let t := run 0x8456 (start [(4, 4), (5, 0xFF)])
    t.reg 4 = 2 ∧ t.reg 15 = 0 ∧ t.reg 5 = 0xFF := by decide -- T-A23
theorem test_shr_vf : let s := start [(15, 0x05)]
    (run 0x8F06 s).reg 15 = 0x01 ∧
    (run 0x8F06 { s with config := { vfWriteOrder := .resultLast } }).reg 15 = 0x02 := by decide -- T-A26
theorem test_subn : let t := run 0x8017 (start [(0, 3), (1, 5)])
    t.reg 0 = 2 ∧ t.reg 15 = 1 ∧ t.reg 1 = 5 := by decide -- T-A27
theorem test_subn_borrow : let t := run 0x8017 (start [(0, 0x20), (1, 0x10)])
    t.reg 0 = 0xF0 ∧ t.reg 15 = 0 := by decide -- T-A30
theorem test_shl : let t := run 0x840E (start [(4, 0x81)])
    t.reg 4 = 2 ∧ t.reg 15 = 1 := by decide -- T-A31
theorem test_shl_no_carry : let t := run 0x840E (start [(4, 0x7F)])
    t.reg 4 = 0xFE ∧ t.reg 15 = 0 := by decide -- T-A32
theorem test_random : (run 0xC3FF (start [])).reg 3 = Config.randomByte 0 &&& 0xFF := by rfl -- T-A37
theorem test_random_zero_mask : (run 0xC300 (start [])).reg 3 = 0 := by -- T-A36
  have h : (run 0xC300 (start [])).reg 3 = Config.randomByte 0 &&& 0 := rfl
  rw [h]; exact BitVec.and_zero

theorem test_setIndex : (run 0xA2F0 { start [] with i := 0xFFFF }).i = 0x02F0 := by decide -- T-M1
theorem test_addIndex_wraps : let t := run 0xF21E { start [(2, 1)] with i := 0xFFFF }
    t.i = 0 ∧ t.reg 15 = 0 := by decide -- T-M3
theorem test_addIndex_past_memory : (run 0xF21E { start [(2, 1)] with i := 0xFFF }).i = 0x1000 := by decide -- T-M4
theorem test_fontIndex : (run 0xF329 (start [(3, 0x0A)])).i = 0x000A := by decide -- T-M5
theorem test_fontIndex_unmasked : (run 0xF329 (start [(3, 0xFF)])).i = 0x00FF := by decide -- T-M6
theorem test_bcd : let t := run 0xF533 { start [(5, 157)] with i := 0x300 }
    t.bytesAt 0x300 3 = [1, 5, 7] ∧ t.cost = some 927 ∧ t.i = 0x300 := by decide -- T-M8
theorem test_bcd_fault : let t := run 0xF533 { start [(5, 123)] with i := 0xFFE }
    t.halt = some ⟨.store, 0x1000, 0x200⟩ ∧ t.pc = 0x202 ∧ t.bytesAt 0xFFE 2 = [0, 0] ∧ t.cost = none := by decide -- T-M12
theorem test_store : let t := run 0xF155 { start [(0, 0xAA), (1, 0xBB), (2, 0xCC)] with i := 0x300 }
    t.bytesAt 0x300 3 = [0xAA, 0xBB, 0] ∧ t.i = 0x300 ∧ t.cost = some 669 := by decide -- T-M13
theorem test_store_fault : let t := run 0xFF55 { start [(0, 1)] with i := 0xFF1 }
    t.halt = some ⟨.store, 0x1000, 0x200⟩ ∧ t.byteAt 0xFF1 = 0 := by decide -- T-M16
theorem test_load : let t := run 0xF265 { start [(3, 0x77)] with i := 0x300, mem := [(0x300, 1), (0x301, 2), (0x302, 3)] }
    t.reg 0 = 1 ∧ t.reg 1 = 2 ∧ t.reg 2 = 3 ∧ t.reg 3 = 0x77 ∧ t.cost = some 733 := by decide -- T-M17
theorem test_load_fault : let t := run 0xF165 { start [(0, 5)] with i := 0xFFF }
    t.halt = some ⟨.load, 0x1000, 0x200⟩ ∧ t.reg 0 = 5 := by decide -- T-M18

/-- The set cells of a grid, row by row. -/
def lit (g : Grid) : List (Nat × Nat) :=
  (List.range 32).flatMap fun y => (List.range 64).filterMap fun x => if g.cell x y then some (x, y) else none

theorem test_draw_clips : let t := run 0xD012 { start [(0, 121), (1, 31)] with i := 0x300, mem := [(0x300, 0x81), (0x301, 0xFF)] }
    lit t.grid = [(57, 31)] ∧ t.dirty = true ∧ t.cost = some 22734 := by decide +kernel -- T-B6
theorem test_draw_collision :
    let s := { start [] with i := 0x300, mem := [(0x300, 0xC0)], grid := State.reset.grid.flip 1 }
    let t := run 0xD011 s
    let u := run 0xD011 { s with config := { collisionToVf := true } }
    lit t.grid = [(0, 0)] ∧ t.reg 15 = 0 ∧ u.reg 15 = 1 := by decide +kernel -- T-B5
theorem test_draw_range_check : let t := run 0xD01F { start [(1, 40)] with i := 0xFF8 }
    t.halt = some ⟨.load, 0x1000, 0x200⟩ ∧ t.dirty = false := by decide -- T-B13

theorem test_readDelay : (run 0xF307 { start [] with dt := 0x2A }).reg 3 = 0x2A := by decide -- T-K1
theorem test_setDelay : (run 0xF315 (start [(3, 60)])).dt = 60 := by decide -- T-K2
theorem test_setSound : let t := run 0xF318 (start [(3, 2)])
    t.st = 2 ∧ t.audioPlaying = false := by decide -- T-K3
theorem test_skipKey : (run 0xE19E { start [(1, 0x0A)] with keysDown := 0x0400 }).pc = 0x204 := by decide -- T-K4
theorem test_skipKey_no_such_key : (run 0xE19E { start [(1, 0x1A)] with keysDown := 0xFFFF }).pc = 0x202 := by decide -- T-K8
theorem test_skipNoKey : (run 0xE1A1 { start [(1, 0x0A)] with keysDown := 0x0400 }).pc = 0x202 := by decide -- T-K7
theorem test_skipNoKey_no_such_key : (run 0xE1A1 { start [(1, 0x1A)] with keysDown := 0xFFFF }).pc = 0x204 := by decide -- T-K9
theorem test_waitKey : let t := run 0xF30A { start [] with keysReleased := 0x0280 }
    t.reg 3 = 7 ∧ t.pc = 0x202 ∧ t.cost = some 1 := by decide -- T-K11
theorem test_waitKey_none : let t := run 0xF30A { start [(3, 9)] with keysDown := 0xFFFF }
    t.reg 3 = 9 ∧ t.pc = 0x200 ∧ t.cost = some 0 ∧ t.burst = none := by decide -- T-K10

/-! ### Step, tick, boot -/

theorem test_fetch_fault : step { start [] with pc := 0xFFF } =
    .next { start [] with pc := 0xFFF, halt := some ⟨.fetch, 0x1000, 0xFFF⟩, burst := none } := by rfl -- T-CF21

/-- A machine between ticks whose host presents nothing. -/
def betweenTicks (dt st : Byte) (audio : Bool) : State :=
  { State.reset with dt := dt, st := st, audioPlaying := audio, frames := [⟨0, 0, false⟩] }

theorem test_tick_start : let t := (betweenTicks 1 1 true).enterBurst
    t.dt = 0 ∧ t.st = 0 ∧ t.audioPlaying = false := by decide -- T-T1
theorem test_tick_audio_on : let t := (betweenTicks 0 5 false).enterBurst
    t.dt = 0 ∧ t.st = 4 ∧ t.audioPlaying = true := by decide -- T-T2, T-T3
theorem test_halted_tick : let s := { betweenTicks 5 5 false with halt := some ⟨.fetch, 0x1000, 0xFFF⟩ }
    tick s = .next s ∧ step s = .next (s.report 0) := ⟨rfl, rfl⟩ -- T-T5

theorem test_frame_halted : let s := { betweenTicks 5 5 false with halt := some ⟨.fetch, 0x1000, 0xFFF⟩, dirty := true }
    frame ⟨3, 0, true⟩ s = .next { s with keysDown := 3, dirty := false } := rfl -- R188 (1) and (3), R189

theorem test_boot_font : ((State.launch {} [0x12, 0x34]).map fun s => (s.bytesAt 10 5, s.bytesAt 0x200 2)) =
    some ([0xF0, 0x10, 0xF0, 0x80, 0xF0], [0x12, 0x34]) := by decide +kernel -- R51 glyph 2, R221
theorem test_boot_too_long : State.reset.loadImage 0xFFF [1, 2] = none := by decide -- R53

/-! ### Witnesses: for every statement with hypotheses, concrete states and operands that meet them, one for each clause
at the values where its clauses meet -/

/-- A halted machine: the fetch at 0xFFF has faulted. -/
def halted : State := { State.reset with pc := 0xFFF, halt := some ⟨.fetch, 0x1000, 0xFFF⟩ }
/-- A machine whose next fetch is its last in memory, and the two after it. -/
def atTheEnd (pc : Word) : State := { State.reset with pc := pc, burst := some 0 }
/-- A machine with an index register. -/
def indexed (i : Word) : State := { State.reset with i := i, burst := some 0 }
/-- The same machine with a word at its pc. -/
def holding (w : Nat) (s : State) : State := s.withFetchWord 16 w

/-- A machine whose cost function departs from R182 for one call, and for 4301 when it skips (46_step_and_tick.md R190). -/
def departing : State := { indexed 0 with config := { costs := { departures :=
  [⟨.call 0x300, .done, .of 7⟩, ⟨.skipNeImm 3 1, .taken, .of 9⟩] } } }

theorem test_departed_costs : departing.costOf (.call 0x300) .done = 7 ∧ departing.costOf (.call 0x300) .saturated = 105 ∧
    departing.costOf (.call 0x301) .done = 105 ∧ departing.costOf (.skipNeImm 3 1) .taken = 9 ∧
    departing.costOf (.skipNeImm 3 1) .notTaken = 55 ∧ departing.costOf (.load 15) .done = 1565 := by decide
theorem witness_given_figures : GivenFigures State.reset.config.costs := by unfold GivenFigures; decide
theorem witness_DecodeOfEncode : (Instr.draw 15 0 15).wf = true ∧ (Instr.unmatched 0x8128).wf = true := by decide
theorem witness_LowNibble : (0x5120 : Word).toNat / 16 = (0x512F : Word).toNat / 16 ∧ (0x5120 : Word).toNat / 4096 = 5 ∧
    (0x9120 : Word).toNat / 16 = (0x9127 : Word).toNat / 16 ∧ (0x9120 : Word).toNat / 4096 = 9 := by decide
theorem witness_UnmatchedSpace : decode 0x00E1 = .unmatched 0x00E1 ∧ decode 0x8008 = .unmatched 0x8008 ∧
    decode 0xE09F = .unmatched 0xE09F ∧ decode 0xF0FF = .unmatched 0xF0FF := by decide
theorem witness_StepFetches : halted.halt.isSome = true ∧
    ((atTheEnd 0xFFE).halt = none ∧ (atTheEnd 0xFFE).pc.toNat + 1 ≤ 0xFFF) ∧
    ((atTheEnd 0xFFF).halt = none ∧ (atTheEnd 0xFFF).pc.toNat + 1 > 0xFFF) ∧
    ((atTheEnd 0x10FE).halt = none ∧ (atTheEnd 0x10FE).pc.toNat + 1 > 0xFFF) := by decide
theorem witness_StepRuns : let s := holding 0xA2F0 State.reset
    s.halt = none ∧ s.pc.toNat + 1 ≤ 0xFFF ∧ (Instr.setIndex 0x2F0).wf = true ∧
    decodeBytes [s.byteAt s.pc.toNat, s.byteAt (s.pc.toNat + 1)] = .ok (.setIndex 0x2F0, []) := by decide
theorem witness_StepYields : State.reset.halt = none ∧ State.reset.pc.toNat + 1 ≤ 0xFFF ∧
    ∃ w, decode State.reset.fetchWord = .unmatched w := ⟨rfl, by decide, 0, by decide⟩
theorem witness_Frozen : ∃ t u, halted.halt.isSome = true ∧ step halted = .next u ∧ (atTheEnd 0xFFF).halt = none ∧ step (atTheEnd 0xFFF) = .next t ∧
    t.halt.isSome = true := ⟨_, _, rfl, rfl, rfl, rfl, rfl⟩
theorem witness_OnlyTabled : ∃ t u v,
    runInstruction (atTheEnd 0xFFF) = .next t ∧ runInstruction (atTheEnd 0xFFE) = .next u ∧ u.halt = none ∧
    exec (.load 1) (indexed 0xFFF) = .next v ∧ v.halt = some ⟨.load, 0x1000, 0x1FE⟩ := ⟨_, _, _, rfl, rfl, rfl, rfl, rfl⟩
theorem witness_FaultsArePrecise : ∃ t u v q r,
    runInstruction (atTheEnd 0xFFF) = .next t ∧ t.halt = some q ∧ q.cause = .fetch ∧
    runInstruction (holding 0xF033 (indexed 0xFFE)) = .next u ∧ u.halt = some r ∧ r.cause = .store ∧
    runInstruction (holding 0xD012 (indexed 0xFFF)) = .next v ∧ v.halt = some ⟨.load, 0x1000, 0x200⟩ :=
  ⟨_, _, _, _, _, rfl, rfl, rfl, rfl, rfl, rfl, rfl, rfl⟩
theorem witness_Return : State.reset.sp.val = 0 ∧ { State.reset with sp := 1 }.sp.val = (0 : Fin 16).val + 1 ∧
    { State.reset with sp := 16 }.sp.val = (15 : Fin 16).val + 1 := by decide
theorem witness_Call : State.reset.sp.val = (0 : Fin 16).val ∧ { State.reset with sp := 15 }.sp.val = (15 : Fin 16).val ∧
    { State.reset with sp := 16 }.sp.val = 16 := by decide
theorem witness_UnmatchedWord : unmatchedWord 0x0000 = true ∧ State.reset.halt = none ∧ State.reset.pc.toNat + 1 ≤ 0xFFF ∧
    State.reset.fetchWord = 0x0000 := by decide
theorem witness_NestedCalls : State.reset.sp.val + (List.replicate 16 (0x300 : Addr12)).length ≤ 16 := by decide
theorem witness_ControlFlowFrame : ∃ t u v w, exec .ret State.reset = .next t ∧ exec (.call 0x300) State.reset = .next u ∧
    exec (.skipEqReg 1 2 7) State.reset = .next v ∧ exec (.unmatched 0x8128) State.reset = .next w :=
  ⟨_, _, _, _, rfl, rfl, rfl, rfl⟩
theorem witness_FlagWriteOrder : aluWrites (.add 15 1) = some [15, 15] ∧ aluWrites (.shl 3 9) = some [3, 15] := ⟨rfl, rfl⟩
theorem witness_AluFrame : ∃ t u, aluWrites (.addImm 15 1) = some [15] ∧ exec (.addImm 15 1) State.reset = .next t ∧
    aluWrites (.sub 1 15) = some [1, 15] ∧ exec (.sub 1 15) State.reset = .next u := ⟨_, _, rfl, rfl, rfl, rfl⟩
theorem witness_VfWriters : ∃ t u, exec (.setImm 15 7) State.reset = .next t ∧ t.reg 15 ≠ State.reset.reg 15 ∧
    exec (.add 1 15) State.reset = .next u ∧ writesFlag (.add 1 15) = true ∧ namesVfAsDestination (.add 1 15) = false :=
  ⟨_, _, rfl, by decide, rfl, rfl, rfl⟩
theorem witness_Bcd : (indexed 0xFFD).mem.wf ∧ (indexed 0xFFD).i.toNat + 2 ≤ 0xFFF ∧ (indexed 0xFFE).i.toNat + 2 > 0xFFF := by
  decide
theorem witness_Store_and_Load : (indexed 0xFF0).mem.wf ∧ (indexed 0xFF0).i.toNat + (15 : Reg).val ≤ 0xFFF ∧
    (indexed 0xFFF).i.toNat + (0 : Reg).val ≤ 0xFFF ∧ (indexed 0x1000).i.toNat + (0 : Reg).val > 0xFFF ∧
    (indexed 0xFFFF).i.toNat + (15 : Reg).val > 0xFFF := by decide
theorem witness_IndexMemoryFrame : ∃ t u, exec (.bcd 1) (indexed 0x300) = .next t ∧ exec (.store 2) (indexed 0xFFF) = .next u ∧
    u.halt ≠ (indexed 0xFFF).halt := ⟨_, _, rfl, rfl, by decide⟩
theorem witness_StoredCode : let s := { indexed 0x202 with pc := 0x202 }
    s.mem.wf ∧ 1 ≤ (1 : Reg).val ∧ s.i = s.pc ∧ s.i.toNat + (1 : Reg).val ≤ 0xFFF := by decide
theorem witness_Draw : (0 : Nibble).val = 0 ∧ (indexed 0xFFF).i.toNat + (1 : Nibble).val - 1 ≤ 0xFFF ∧ (2 : Nibble).val ≥ 1 ∧
    (indexed 0xFFF).i.toNat + (2 : Nibble).val - 1 > 0xFFF ∧ (indexed 0xFFF).config.collisionToVf = false ∧
    { indexed 0xFFF with config := { collisionToVf := true } }.config.collisionToVf = true := by decide
theorem witness_Dirty_and_DisplayFrame : ∃ t u, exec .cls State.reset = .next t ∧ exec (.draw 0 1 0) (indexed 0xFFFF) = .next u ∧
    u.halt = (indexed 0xFFFF).halt ∧ u.cost ≠ none ∧ u.dirty ≠ (indexed 0xFFFF).dirty := ⟨_, _, rfl, rfl, rfl, by decide, by decide⟩
theorem witness_KeySkips : let s := { start [(1, 15), (2, 16)] with keysDown := 0xFFFF }
    (true = true ↔ (s.reg 1).toNat ≤ 15 ∧ s.keysDown.getLsbD (s.reg 1).toNat = true) ∧
    (false = true ↔ (s.reg 2).toNat ≤ 15 ∧ s.keysDown.getLsbD (s.reg 2).toNat = true) := by decide
theorem witness_WaitKey : let s := { start [] with keysReleased := 0x8000 }
    (s.keysReleased.getLsbD (15 : Fin 16).val = true ∧ ∀ j : Fin 16, j < 15 → s.keysReleased.getLsbD j.val = false) ∧
    ∀ k : Fin 16, (start []).keysReleased.getLsbD k.val = false := by decide
theorem witness_TimersKeysFrame : ∃ t u, exec (.waitKey 3) State.reset = .next t ∧ exec (.setSound 3) State.reset = .next u :=
  ⟨_, _, rfl, rfl⟩
theorem witness_TabledWriters_and_Costs : ∃ t u v, State.reset.halt = none ∧ exec (.addIndex 0) (start [(0, 1)]) = .next t ∧
    t.i ≠ (start [(0, 1)]).i ∧ exec (.load 3) (indexed 0xFFD) = .next u ∧ u.halt ≠ (indexed 0xFFD).halt ∧
    exec (.waitKey 0) State.reset = .next v ∧ v.cost = some 0 := ⟨_, _, _, rfl, rfl, by decide, rfl, by decide, rfl, by decide⟩
theorem witness_CostTable : ∃ t u, GivenFigures State.reset.config.costs ∧ State.reset.halt = none ∧
    exec (.draw 0 1 5) State.reset = .next t ∧ t.halt = none ∧
    exec (.draw 0 1 2) (indexed 0xFFF) = .next u ∧ u.halt ≠ none := ⟨_, _, witness_given_figures, rfl, rfl, rfl, rfl, by decide⟩
theorem witness_TickStart : State.reset.burst = none ∧ (start []).burst = some 0 := ⟨rfl, rfl⟩
theorem witness_Burst_and_timers : ∃ t u v, (start []).halt = none ∧ step (holding 0x6105 (start [])) = .next t ∧ t.cost = some 27 ∧
    step (atTheEnd 0xFFF) = .next u ∧ u.halt ≠ none ∧ (holding 0xF315 (start [])).pc.toNat + 1 ≤ 0xFFF ∧
    decode (holding 0xF315 (start [])).fetchWord = .setDelay 3 ∧ decode (holding 0xF318 (start [])).fetchWord = .setSound 3 ∧
    step (holding 0xF315 (start [])) = .next v := ⟨_, _, _, rfl, rfl, rfl, rfl, by decide, by decide, by decide, by decide, rfl⟩
theorem witness_Ports : let s := { State.reset with dirty := true, frames := [⟨0, 0, true⟩] }
    ∃ t, step s = .next t ∧ s.dirty = true ∧ t.dirty = false := ⟨_, rfl, rfl, rfl⟩
theorem witness_Tick : State.reset.halt = none ∧ State.reset.burst = none := ⟨rfl, rfl⟩
theorem witness_Boot : (List.replicate 3584 (0 : Byte)).length ≤ 3584 ∧ (List.replicate 3585 (0 : Byte)).length > 3584 := by
  simp only [List.length_replicate]; omega
theorem witness_StepKeepsInvariant : ∃ t, (holding 0x6105 (start [])).Inv ∧ step (holding 0x6105 (start [])) = .next t := by
  refine ⟨_, ⟨by decide, by decide, by decide, by decide, ?_, ?_, ?_, ?_⟩, rfl⟩
  · rintro acc h; injection h with h; omega
  · rintro r h; cases h
  · rintro r h; cases h
  · rintro r h; cases h

end Sys2Proof.Tests
end

section
/-! SUPPORT. The two outcomes of an instruction and of a step (00_scope.md R8): a cost with the halt latch untouched, or
a fault with no cost. -/

namespace Sys2Proof.Machine

/-- The two outcomes of an instruction run from `s` (R8): the latch kept and a cost reported, or a data fault of `s` and
nothing else. -/
def State.CostOrFault (s t : State) : Prop :=
  (t.halt = s.halt ∧ ∃ c, t.cost = some c) ∨ ∃ cause, t = s.dataFault cause

/-! ### The ways an instruction ends -/

theorem State.CostOrFault.report {s e : State} (c : Nat) (h : e.halt = s.halt) : s.CostOrFault (e.report c) :=
  .inl ⟨h, c, rfl⟩

theorem State.CostOrFault.charge {s e : State} {i : Instr} {o : CostOutcome} (h : e.halt = s.halt) :
    s.CostOrFault (e.charge i o) := .report _ h

theorem State.CostOrFault.skipIf (s : State) (i : Instr) (c : Bool) : s.CostOrFault (s.skipIf i c) :=
  .inl ⟨s.skipIf_halt i c, _, s.skipIf_cost i c⟩

/-- A checked transfer ends as its effect does, or in the fault of its range check. -/
theorem State.CostOrFault.checked {s e : State} (cause : FaultCause) (count : Nat) (h : s.CostOrFault e) :
    s.CostOrFault (s.checked cause count e) := by
  rcases s.checked_cases cause count e with ⟨-, hc⟩ | ⟨-, hc⟩
  · exact .inr ⟨cause, hc⟩
  · rwa [hc]

/-! ### Instructions and steps -/

/-- Every instruction answers a next state and reports a cost or faults, whatever the state (R8). -/
theorem exec_answers_costOrFault (i : Instr) (s : State) : ∃ t, exec i s = .next t ∧ s.CostOrFault t := by
  cases i with
  | draw | bcd | store | load => exact ⟨_, rfl, .checked _ _ (.charge (by simp))⟩
  | skipEqImm | skipNeImm | skipEqReg | skipNeReg | skipKey | skipNoKey => exact ⟨_, rfl, .skipIf s _ _⟩
  | ret =>
    refine ⟨_, rfl, ?_⟩
    cases s.top with
    | some w => exact .charge rfl
    | none => exact .charge rfl
  | waitKey =>
    refine ⟨_, rfl, ?_⟩
    cases s.firstReleased with
    | some k => exact .charge rfl
    | none => exact .report 0 rfl
  | unmatched => exact ⟨_, rfl, .report 0 rfl⟩
  | _ => exact ⟨_, rfl, .charge (by simp)⟩

theorem exec_costOrFault {i : Instr} {s t : State} (h : exec i s = .next t) : s.CostOrFault t := by
  obtain ⟨u, hu, hc⟩ := exec_answers_costOrFault i s
  rw [h] at hu
  injection hu with hu
  rwa [hu]

/-- The unmatched word is a no-op of cost 0 (40_control_flow.md R88). -/
@[simp] theorem exec_unmatched (w : Word) (s : State) : exec (.unmatched w) s = .next (s.report 0) := rfl

theorem step_answers_next (s : State) : ∃ t, step s = .next t := by
  cases hs : s.halt with
  | some r => exact ⟨s.report 0, by simp [step, runInstruction, hs]⟩
  | none =>
    have he : s.enterBurst.halt = none := by simp [hs]
    rw [step_of_running hs]
    rcases runInstruction_cases he with ⟨-, hr⟩ | ⟨-, u, -, hr⟩
    · exact ⟨_, by rw [hr, accounted_next]⟩
    · exact ⟨_, by rw [hr, accounted_next]⟩

/-- A step keeps the latch and reports a cost, or reports none and sets a latch that was clear. -/
theorem step_cost_or_halts {s t : State} (h : step s = .next t) :
    (t.halt = s.halt ∧ ∃ c, t.cost = some c) ∨ (t.cost = none ∧ s.halt = none ∧ ∃ r, t.halt = some r) := by
  rcases step_cases h with ⟨-, rfl⟩ | ⟨hs, -, rfl⟩ | ⟨hs, -, u, hu, rfl⟩
  · exact .inl ⟨rfl, 0, rfl⟩
  · exact .inr ⟨rfl, hs, _, rfl⟩
  · rcases exec_costOrFault hu with ⟨hh, c, hc⟩ | ⟨cause, rfl⟩
    · exact .inl ⟨by simpa using hh, c, hc⟩
    · exact .inr ⟨rfl, hs, _, rfl⟩

/-- A step that fetches an unmatched word keeps the clear latch and reports cost 0 (R8, R88). -/
theorem step_of_unmatched {s t : State} {w : Word} (h : step s = .next t) (hs : s.halt = none)
    (hf : s.fetchOutOfRange = false) (hw : decode s.fetchWord = .unmatched w) : t.halt = none ∧ t.cost = some 0 := by
  rcases step_cases h with ⟨hs', -⟩ | ⟨-, hf', -⟩ | ⟨-, -, u, hu, rfl⟩
  · simp [hs] at hs'
  · simp [hf] at hf'
  · rw [hw, exec_unmatched] at hu
    injection hu with hu; subst hu
    exact ⟨by simpa using hs, rfl⟩

end Sys2Proof.Machine

namespace Sys2Proof.Proofs

open Sys2Proof.Machine

/-- Settles O9, by the cases of a step: halted, fetch fault, or an instruction, which reports a cost or faults. -/
theorem stepYieldsCostOrFault : Obligations.StepYieldsCostOrFault := by
  intro s
  obtain ⟨t, ht⟩ := step_answers_next s
  refine ⟨t, ht, step_cost_or_halts ht, ?_⟩
  rintro hs hpc ⟨w, hw⟩
  have hf : s.fetchOutOfRange = false := by
    rw [← Bool.not_eq_true, State.fetchOutOfRange_iff]
    omega
  exact step_of_unmatched ht hs hf hw

end Sys2Proof.Proofs
end

section
/-! SUPPORT. What an instruction can do, once for all instructions: the classes of the column "written by" of the table of
10_state.md R10, and for each class the shape of the state it answers. -/

namespace Sys2Proof.Machine

/-! ### The column "written by" (10_state.md R10) -/

/-- The writers of general registers, but for DXYN. -/
def WritesRegisters (i : Instr) : Prop :=
  (∃ x nn, i = .setImm x nn ∨ i = .addImm x nn ∨ i = .random x nn) ∨
  (∃ x y, i = .copy x y ∨ i = .or x y ∨ i = .and x y ∨ i = .xor x y ∨ i = .add x y ∨ i = .sub x y ∨ i = .shr x y ∨
    i = .subn x y ∨ i = .shl x y) ∨
  ∃ x, i = .readDelay x ∨ i = .waitKey x ∨ i = .load x

/-- The writers of pc. -/
def WritesPc (i : Instr) : Prop :=
  i = .ret ∨ (∃ nnn, i = .jump nnn ∨ i = .call nnn ∨ i = .jumpV0 nnn) ∨
  (∃ x nn, i = .skipEqImm x nn ∨ i = .skipNeImm x nn) ∨ (∃ x y n, i = .skipEqReg x y n ∨ i = .skipNeReg x y n) ∨
  ∃ x, i = .skipKey x ∨ i = .skipNoKey x ∨ i = .waitKey x

/-- The writers of I. -/
def WritesIndex (i : Instr) : Prop := ∃ x nnn, i = .setIndex nnn ∨ i = .addIndex x ∨ i = .fontIndex x

/-- The writers of memory. -/
def WritesMemory (i : Instr) : Prop := ∃ x, i = .bcd x ∨ i = .store x

/-- The instructions whose range check can set the latch (60_exceptions.md R200). -/
def ChecksRange (i : Instr) : Prop := ∃ x y n, i = .draw x y n ∨ i = .load x ∨ i = .bcd x ∨ i = .store x

/-- What an instruction can do: the state it answers, by class, with what the class promises of the value it writes. -/
inductive State.Effect (s : State) : Instr → State → Prop
  /-- Nothing but a cost: an unmatched word, 00EE on an empty stack. -/
  | costOnly {i : Instr} (c : Nat) : Effect s i (s.report c)
  /-- One register, the named destination. -/
  | register {i : Instr} (x : Reg) (b : Byte) (c : Nat) (hi : WritesRegisters i)
      (hx : namesVfAsDestination i = (x == 15)) : Effect s i ((s.setReg x b).report c)
  | random (x : Reg) (nn b : Byte) (c : Nat) : Effect s (.random x nn) ((s.drawn.setReg x b).report c)
  /-- A result and a flag of 0 or 1. -/
  | resultAndFlag {i : Instr} (x : Reg) (r : Byte) (flag : Bool) (c : Nat) (hi : WritesRegisters i)
      (hf : writesFlag i = true) (hx : namesVfAsDestination i = (x == 15)) :
      Effect s i ((s.writeResultAndFlag x r (flagByte flag)).report c)
  | load (x : Reg) (c : Nat) : Effect s (.load x) ((s.setRegs (s.loadedRegs x)).report c)
  | index {i : Instr} (w : Word) (c : Nat) (hi : WritesIndex i) : Effect s i ((s.setIndex w).report c)
  /-- A jump, at most to 0xFFF + 0xFF. -/
  | jump {i : Instr} (w : Word) (c : Nat) (hi : WritesPc i) (hw : w.toNat ≤ 0x10FE) : Effect s i ((s.setPc w).report c)
  /-- A conditional skip, charged as the instruction `j`. -/
  | skip {i : Instr} (j : Instr) (taken : Bool) (hi : WritesPc i) : Effect s i (s.skipIf j taken)
  | ret (w : Word) (c : Nat) (hw : s.top = some w) : Effect s .ret ((s.drop.setPc w).report c)
  | call (nnn : Addr12) (c : Nat) : Effect s (.call nnn) (((s.push s.pc).setPc (addrOf nnn)).report c)
  /-- FX0A with no key released: back onto itself. -/
  | keyWait (x : Reg) : Effect s (.waitKey x) (s.rewind.report 0)
  | delay (x : Reg) (c : Nat) : Effect s (.setDelay x) ((s.setDelayTimer (s.reg x)).report c)
  | sound (x : Reg) (c : Nat) : Effect s (.setSound x) ((s.setSoundTimer (s.reg x)).report c)
  /-- Bytes from I, all of them inside memory. -/
  | memory {i : Instr} (bs : List Byte) (c : Nat) (hi : WritesMemory i) (hbs : s.i.toNat + bs.length ≤ 0x1000) :
      Effect s i ((s.storeBytes s.i.toNat bs).report c)
  | cls (c : Nat) : Effect s .cls (s.clearAll.report c)
  | draw (x y : Reg) (n : Nibble) (c : Nat) : Effect s (.draw x y n) ((s.drawSprite x y n).report c)
  /-- The fault of a data access and nothing else. -/
  | fault {i : Instr} (cause : FaultCause) (hi : ChecksRange i) (hc : cause ≠ .fetch) : Effect s i (s.dataFault cause)

/-- A transfer of the range check: its own effect, or the fault. -/
theorem State.Effect.checked {s e : State} {i : Instr} {cause : FaultCause} {count : Nat} (hi : ChecksRange i)
    (hc : cause ≠ .fetch) (he : s.outOfRange count = false → s.Effect i e) : s.Effect i (s.checked cause count e) := by
  rcases s.checked_cases cause count e with ⟨-, h⟩ | ⟨hr, h⟩
  · rw [h]; exact .fault cause hi hc
  · rw [h]; exact he hr

/-- What a passed range check says of the bytes it checked. -/
theorem State.add_length_le_of_inRange {s : State} {bs : List Byte} {n : Nat} (hbs : bs.length = n + 1)
    (h : s.outOfRange (n + 1) = false) : s.i.toNat + bs.length ≤ 0x1000 := by
  rw [← Bool.not_eq_true, State.outOfRange_iff] at h
  omega

theorem addrOf_toNat (nnn : Addr12) : (addrOf nnn).toNat = nnn.toNat := BitVec.toNat_setWidth_of_le (by decide)

theorem State.regWord_toNat (s : State) (x : Reg) : (s.regWord x).toNat = (s.reg x).toNat :=
  BitVec.toNat_setWidth_of_le (by decide)

/-- The furthest target of BNNN (10_state.md R14). -/
theorem State.jumpV0_target_le (s : State) (nnn : Addr12) : (addrOf nnn + s.regWord 0).toNat ≤ 0x10FE := by
  have hn := nnn.isLt
  have hv := (s.reg 0).isLt
  rw [BitVec.toNat_add, addrOf_toNat, State.regWord_toNat]
  omega

/-- Every instruction answers a next state by the effect of its class. -/
theorem exec_has_effect (i : Instr) (s : State) : ∃ t, exec i s = .next t ∧ s.Effect i t := by
  cases i with
  | cls => exact ⟨_, rfl, .cls _⟩
  | ret =>
    refine ⟨_, rfl, ?_⟩
    cases h : s.top with
    | some w => exact .ret w _ h
    | none => exact .costOnly _
  | jump nnn =>
    have := nnn.isLt
    exact ⟨_, rfl, .jump _ _ (by simp [WritesPc]) (by rw [addrOf_toNat]; omega)⟩
  | call nnn => exact ⟨_, rfl, .call nnn _⟩
  | jumpV0 nnn => exact ⟨_, rfl, .jump _ _ (by simp [WritesPc]) (s.jumpV0_target_le nnn)⟩
  | skipEqImm | skipNeImm | skipEqReg | skipNeReg | skipKey | skipNoKey =>
    exact ⟨_, rfl, .skip _ _ (by simp [WritesPc])⟩
  | setImm | addImm | copy | or | and | xor | readDelay =>
    exact ⟨_, rfl, .register _ _ _ (by simp [WritesRegisters]) rfl⟩
  | add | sub | shr | subn | shl => exact ⟨_, rfl, .resultAndFlag _ _ _ _ (by simp [WritesRegisters]) rfl rfl⟩
  | random x nn => exact ⟨_, rfl, .random x nn _ _⟩
  | setIndex | addIndex | fontIndex => exact ⟨_, rfl, .index _ _ (by simp [WritesIndex])⟩
  | setDelay x => exact ⟨_, rfl, .delay x _⟩
  | setSound x => exact ⟨_, rfl, .sound x _⟩
  | waitKey x =>
    refine ⟨_, rfl, ?_⟩
    cases s.firstReleased with
    | some k => exact .register _ _ _ (by simp [WritesRegisters]) rfl
    | none => exact .keyWait x
  | draw x y n => exact ⟨_, rfl, .checked (by simp [ChecksRange]) (by decide) fun _ => .draw x y n _⟩
  | load x => exact ⟨_, rfl, .checked (by simp [ChecksRange]) (by decide) fun _ => .load x _⟩
  | bcd x =>
    exact ⟨_, rfl, .checked (by simp [ChecksRange]) (by decide) fun hr =>
      .memory _ _ (by simp [WritesMemory]) (State.add_length_le_of_inRange rfl hr)⟩
  | store x =>
    exact ⟨_, rfl, .checked (by simp [ChecksRange]) (by decide) fun hr =>
      .memory _ _ (by simp [WritesMemory]) (State.add_length_le_of_inRange (by simp [State.regBlock]) hr)⟩
  | unmatched w => exact ⟨_, rfl, .costOnly 0⟩

theorem exec_effect {i : Instr} {s t : State} (h : exec i s = .next t) : s.Effect i t := by
  obtain ⟨u, hu, he⟩ := exec_has_effect i s
  rw [h] at hu
  injection hu with hu
  rwa [hu]

end Sys2Proof.Machine
end

section
/-! SUPPORT. The table of state of 10_state.md R10 read by piece of state: what changed names its writers. -/

namespace Sys2Proof.Machine

/-- The collision bit goes to VF, if anywhere (43_display_blit.md R146). -/
theorem State.reg_recordCollision_of_ne (s : State) (c : Bool) {r : Reg} (hr : r ≠ vf) :
    (s.recordCollision c).reg r = s.reg r := by
  unfold State.recordCollision
  split
  · rw [State.reg_setReg, if_neg hr.symm]
  · rfl

/-- A drawing writes no general register but VF (43_display_blit.md R152). -/
theorem State.reg_drawSprite_of_ne (s : State) (x y : Reg) (n : Nibble) {r : Reg} (hr : r ≠ vf) :
    (s.drawSprite x y n).reg r = s.reg r := by
  unfold State.drawSprite
  rw [State.reg_recordCollision_of_ne _ _ hr]
  rfl

/-- Without COLLISION_TO_VF a drawing writes no general register at all (R150). -/
theorem State.drawSprite_v_of_not_collisionToVf {s : State} (h : ¬s.config.collisionToVf = true) (x y : Reg)
    (n : Nibble) : (s.drawSprite x y n).v = s.v := by
  simp [State.drawSprite_eq, h]

end Sys2Proof.Machine

namespace Sys2Proof.Machine.State.Effect

variable {i : Instr} {s t : State}

theorem mem_writer (h : s.Effect i t) (hne : t.mem ≠ s.mem) : WritesMemory i := by
  cases h with
  | memory _ _ hi _ => exact hi
  | _ => exact absurd (by simp) hne

theorem pc_writer (h : s.Effect i t) (hne : t.pc ≠ s.pc) : WritesPc i := by
  cases h with
  | jump _ _ hi _ => exact hi
  | skip _ _ hi => exact hi
  | ret | call | keyWait => simp [WritesPc]
  | _ => exact absurd (by simp) hne

theorem index_writer (h : s.Effect i t) (hne : t.i ≠ s.i) : WritesIndex i := by
  cases h with
  | index _ _ hi => exact hi
  | _ => exact absurd (by simp) hne

theorem stack_writer (h : s.Effect i t) (hne : t.stack ≠ s.stack) : ∃ nnn, i = .call nnn := by
  cases h with
  | call nnn _ => exact ⟨nnn, rfl⟩
  | _ => exact absurd (by simp) hne

theorem sp_writer (h : s.Effect i t) (hne : t.sp ≠ s.sp) : i = .ret ∨ ∃ nnn, i = .call nnn := by
  cases h with
  | ret => exact .inl rfl
  | call nnn _ => exact .inr ⟨nnn, rfl⟩
  | _ => exact absurd (by simp) hne

theorem dt_writer (h : s.Effect i t) (hne : t.dt ≠ s.dt) : ∃ x, i = .setDelay x := by
  cases h with
  | delay x _ => exact ⟨x, rfl⟩
  | _ => exact absurd (by simp) hne

theorem st_writer (h : s.Effect i t) (hne : t.st ≠ s.st) : ∃ x, i = .setSound x := by
  cases h with
  | sound x _ => exact ⟨x, rfl⟩
  | _ => exact absurd (by simp) hne

theorem grid_writer (h : s.Effect i t) (hne : t.grid ≠ s.grid) : i = .cls ∨ ∃ x y n, i = .draw x y n := by
  cases h with
  | cls => exact .inl rfl
  | draw x y n _ => exact .inr ⟨x, y, n, rfl⟩
  | _ => exact absurd (by simp) hne

theorem dirty_writer (h : s.Effect i t) (hne : t.dirty ≠ s.dirty) : i = .cls ∨ ∃ x y n, i = .draw x y n := by
  cases h with
  | cls => exact .inl rfl
  | draw x y n _ => exact .inr ⟨x, y, n, rfl⟩
  | _ => exact absurd (by simp) hne

theorem halt_writer (h : s.Effect i t) (hne : t.halt ≠ s.halt) : ChecksRange i := by
  cases h with
  | fault _ hi _ => exact hi
  | _ => exact absurd (by simp) hne

theorem keepsSurroundings (h : s.Effect i t) : KeepsSurroundings s t := by
  cases h <;> simp [KeepsSurroundings]

theorem registers_writer (h : s.Effect i t) (hne : t.v ≠ s.v) :
    WritesRegisters i ∨ (∃ x y n, i = .draw x y n) ∧ s.config.collisionToVf = true ∧ KeepsRegs [15] s t := by
  cases h with
  | register _ _ _ hi _ => exact .inl hi
  | resultAndFlag _ _ _ _ hi _ _ => exact .inl hi
  | random | load => exact .inl (by simp [WritesRegisters])
  | draw x y n c =>
    refine .inr ⟨⟨x, y, n, rfl⟩, ?_, fun r hr => s.reg_drawSprite_of_ne x y n (by simpa [vf] using hr)⟩
    by_contra hconf
    exact hne (drawSprite_v_of_not_collisionToVf hconf x y n)
  | _ => exact absurd (by simp) hne

end Sys2Proof.Machine.State.Effect

namespace Sys2Proof.Proofs

open Sys2Proof.Machine

/-- Settles O48, by the effect of each instruction's class. -/
theorem onlyTabledWritersWrite : Obligations.OnlyTabledWritersWrite := by
  intro i s t h
  have he : s.Effect i t := exec_effect h
  exact ⟨he.mem_writer, fun hne => (or_assoc.mp (he.registers_writer hne)).imp_right or_assoc.mp, he.pc_writer,
    he.dirty_writer, he.index_writer, he.stack_writer, he.sp_writer, he.dt_writer, he.st_writer, he.grid_writer,
    he.halt_writer, he.keepsSurroundings⟩

end Sys2Proof.Proofs
end

section
/-! SUPPORT. Who writes VF (10_state.md R12). -/

namespace Sys2Proof.Machine

@[simp] theorem State.reg_report (s : State) (c : Nat) (r : Reg) : (s.report c).reg r = s.reg r := rfl

/-- A write to one register changes that register only. -/
theorem State.eq_of_reg_setReg_ne {s : State} {x y : Reg} {b : Byte} (h : (s.setReg x b).reg y ≠ s.reg y) : x = y := by
  by_contra hne
  exact h ((s.reg_setReg x y b).trans (if_neg hne))

/-- FX65 leaves every register above VX (42_index_memory.md R125). -/
theorem State.reg_setRegs_loadedRegs_of_lt (s : State) {x r : Reg} (h : x < r) :
    (s.setRegs (s.loadedRegs x)).reg r = s.reg r := by
  simp [State.reg, State.loadedRegs, h]

/-- VF is changed by a flag writer, as the named destination, or by a drawing under COLLISION_TO_VF. -/
theorem State.Effect.vf_writer {i : Instr} {s t : State} (h : s.Effect i t) (hne : t.reg 15 ≠ s.reg 15) :
    writesFlag i = true ∨ namesVfAsDestination i = true ∨
      (∃ x y n, i = .draw x y n) ∧ s.config.collisionToVf = true := by
  have hv : t.v ≠ s.v := fun hv => hne (State.reg_of_v_eq hv 15)
  cases h with
  | resultAndFlag _ _ _ _ _ hf _ => exact .inl hf
  | register x b c _ hx =>
    rw [hx, State.eq_of_reg_setReg_ne hne]
    exact .inr (.inl rfl)
  | random x nn b c =>
    exact .inr (.inl (beq_iff_eq.mpr (State.eq_of_reg_setReg_ne (s := s.drawn) hne)))
  | load x c =>
    refine .inr (.inl (beq_iff_eq.mpr ?_))
    rw [State.reg_report] at hne
    by_contra hne'
    exact hne (s.reg_setRegs_loadedRegs_of_lt (lt_of_le_of_ne (Fin.le_last x) hne'))
  | draw x y n c =>
    refine .inr (.inr ⟨⟨x, y, n, rfl⟩, ?_⟩)
    by_contra hconf
    exact hv (State.drawSprite_v_of_not_collisionToVf hconf x y n)
  | _ => exact absurd (by simp) hv

/-- A flag writer writes its result and a flag of 0 or 1 through the one operation of 41_alu.md R112. -/
theorem exec_of_writesFlag {i : Instr} (s : State) (h : writesFlag i = true) : ∃ x r flag c,
    exec i s = .next ((s.writeResultAndFlag x r (flagByte flag)).report c) ∧ namesVfAsDestination i = (x == 15) := by
  cases i with
  | add | sub | shr | subn | shl => exact ⟨_, _, _, _, rfl, rfl⟩
  | _ => cases h

theorem flagByte_eq_zero_or_one (b : Bool) : flagByte b = 0 ∨ flagByte b = 1 := by
  cases b
  · exact .inl rfl
  · exact .inr rfl

/-- The flag stands in VF unless the result is named there. -/
theorem State.reg_vf_writeResultAndFlag (s : State) {x : Reg} (hx : x ≠ 15) (r f : Byte) :
    (s.writeResultAndFlag x r f).reg 15 = f := by
  rw [State.reg_writeResultAndFlag, if_pos (show (15 : Reg) = vf from rfl), if_neg fun h => hx h.1]

end Sys2Proof.Machine

namespace Sys2Proof.Proofs

open Sys2Proof.Machine

/-- Settles O29, by the effect of each instruction's class and the one write of a result and its flag. -/
theorem vfWritersAreExactly : Obligations.VfWritersAreExactly := by
  intro i s t h
  refine ⟨(exec_effect h).vf_writer, fun hf hn => ?_⟩
  obtain ⟨x, r, flag, c, hu, hx⟩ := exec_of_writesFlag s hf
  rw [h] at hu
  injection hu with hu
  have hx : x ≠ 15 := fun e => by simp [hx, e] at hn
  have hvf : t.reg 15 = flagByte flag := by rw [hu]; exact s.reg_vf_writeResultAndFlag hx r (flagByte flag)
  rw [hvf]
  exact flagByte_eq_zero_or_one flag

end Sys2Proof.Proofs
end

section
/-! SUPPORT. Timers, ports, dirty and configuration over one step: what the start of a tick makes of them
(46_step_and_tick.md R184, R185, R188), and that nothing of a step but the instruction changes them after it. -/

namespace Sys2Proof.Machine

variable {s t : State}

/-! ### The start of a tick, field by field -/

theorem State.enterBurst_eq_ite (s : State) : s.enterBurst = if s.burst = none then s.beginTick else s := by
  cases h : s.burst with
  | none => exact State.enterBurst_of_none h
  | some acc => exact State.enterBurst_of_some h

theorem State.enterBurst_dt (s : State) : s.enterBurst.dt = if s.burst = none then decayed s.dt else s.dt := by
  rw [State.enterBurst_eq_ite, apply_ite State.dt, State.beginTick_eq]

theorem State.enterBurst_st (s : State) : s.enterBurst.st = if s.burst = none then decayed s.st else s.st := by
  rw [State.enterBurst_eq_ite, apply_ite State.st, State.beginTick_eq]

theorem State.enterBurst_audioPlaying (s : State) :
    s.enterBurst.audioPlaying = if s.burst = none then decide (decayed s.st ≠ 0) else s.audioPlaying := by
  rw [State.enterBurst_eq_ite, apply_ite State.audioPlaying, State.beginTick_eq]

theorem State.enterBurst_keysDown (s : State) :
    s.enterBurst.keysDown = if s.burst = none then s.nextFrame.keysDown else s.keysDown := by
  rw [State.enterBurst_eq_ite, apply_ite State.keysDown, State.beginTick_eq]

theorem State.enterBurst_keysReleased (s : State) :
    s.enterBurst.keysReleased = if s.burst = none then s.nextFrame.keysReleased else s.keysReleased := by
  rw [State.enterBurst_eq_ite, apply_ite State.keysReleased, State.beginTick_eq]

theorem State.enterBurst_dirty (s : State) :
    s.enterBurst.dirty = if s.burst = none then s.dirty && !s.nextFrame.clearDirty else s.dirty := by
  rw [State.enterBurst_eq_ite, apply_ite State.dirty, State.beginTick_eq]

theorem decayed_ne_zero_iff (b : Byte) : decayed b ≠ 0 ↔ b.toNat - 1 ≠ 0 := by
  rw [Ne, ← BitVec.toNat_inj, decayed_toNat]
  rfl

/-! ### A step of a running machine -/

/-- A step of a running machine: the start of a tick where one is due, then a fetch fault or the effect of the decoded
instruction, then the accounting. -/
theorem step_effect (hs : s.halt = none) (h : step s = .next t) :
    ∃ u, t = u.account ∧
      ((s.fetchOutOfRange = true ∧ u = s.enterBurst.fetchFault) ∨
        (s.fetchOutOfRange = false ∧ s.enterBurst.advance.Effect (decode s.fetchWord) u)) := by
  rcases step_cases h with ⟨hs', -⟩ | ⟨-, hf, rfl⟩ | ⟨-, hf, u, hu, rfl⟩
  · simp [hs] at hs'
  · exact ⟨_, rfl, .inl ⟨hf, rfl⟩⟩
  · exact ⟨u, rfl, .inr ⟨hf, exec_effect hu⟩⟩

/-- A step of a halted machine reports cost 0 and changes nothing else (R189). -/
theorem step_of_halted (hs : s.halt ≠ none) (h : step s = .next t) : t = s.report 0 := by
  rcases step_cases h with ⟨-, rfl⟩ | ⟨hs', -⟩ | ⟨hs', -⟩
  · rfl
  · exact absurd hs' hs
  · exact absurd hs' hs

/-- After the start of its tick a step keeps the audio bit, the key ports and the configuration. -/
theorem step_keeps_surroundings (hs : s.halt = none) (h : step s = .next t) :
    t.audioPlaying = s.enterBurst.audioPlaying ∧ t.keysDown = s.enterBurst.keysDown ∧
      t.keysReleased = s.enterBurst.keysReleased ∧ t.config = s.config := by
  obtain ⟨u, rfl, ⟨-, rfl⟩ | ⟨-, he⟩⟩ := step_effect hs h
  · simp
  · obtain ⟨haudio, hdown, hreleased, -, hconfig, -⟩ := he.keepsSurroundings
    simp [haudio, hdown, hreleased, hconfig]

/-- No instruction clears dirty (10_state.md R23). -/
theorem State.Effect.dirty_of_dirty {i : Instr} (he : s.Effect i t) (h : s.dirty = true) : t.dirty = true := by
  cases he <;> simp [h]

/-- After the start of its tick a step does not clear dirty. -/
theorem step_dirty_of_dirty (hs : s.halt = none) (h : step s = .next t) (hd : s.enterBurst.dirty = true) :
    t.dirty = true := by
  obtain ⟨u, rfl, ⟨-, rfl⟩ | ⟨-, he⟩⟩ := step_effect hs h
  · simpa using hd
  · simpa using he.dirty_of_dirty (by simpa using hd)

/-! ### Timers -/

theorem State.fetchOutOfRange_eq_false_iff (s : State) : s.fetchOutOfRange = false ↔ s.pc.toNat + 1 ≤ 0xFFF := by
  rw [← Bool.not_eq_true, State.fetchOutOfRange_iff]
  omega

/-- A step that runs an instruction answers what the instruction does, with the burst accounted for. -/
theorem step_of_fetched (hs : s.halt = none) (hpc : s.pc.toNat + 1 ≤ 0xFFF) (h : step s = .next t) :
    ∃ u, exec (decode s.fetchWord) s.enterBurst.advance = .next u ∧ t = u.account := by
  have hf := s.fetchOutOfRange_eq_false_iff.mpr hpc
  rcases step_cases h with ⟨hs', -⟩ | ⟨-, hf', -⟩ | ⟨-, -, hu⟩
  · simp [hs] at hs'
  · simp [hf] at hf'
  · exact hu

/-- A step that runs FX15 loads DT with VX. -/
theorem step_dt_of_setDelay {x : Reg} (hs : s.halt = none) (hpc : s.pc.toNat + 1 ≤ 0xFFF)
    (hx : decode s.fetchWord = .setDelay x) (h : step s = .next t) : t.dt = s.reg x := by
  obtain ⟨u, hu, rfl⟩ := step_of_fetched hs hpc h
  rw [hx] at hu
  injection hu with hu
  rw [← hu]
  simp [State.reg]

/-- A step that runs FX18 loads ST with VX. -/
theorem step_st_of_setSound {x : Reg} (hs : s.halt = none) (hpc : s.pc.toNat + 1 ≤ 0xFFF)
    (hx : decode s.fetchWord = .setSound x) (h : step s = .next t) : t.st = s.reg x := by
  obtain ⟨u, hu, rfl⟩ := step_of_fetched hs hpc h
  rw [hx] at hu
  injection hu with hu
  rw [← hu]
  simp [State.reg]

/-- A step that does not run FX15 leaves DT as the start of its tick made it. -/
theorem step_dt_of_ne_setDelay (hs : s.halt = none) (h : step s = .next t)
    (hx : s.pc.toNat + 1 > 0xFFF ∨ ∀ x, decode s.fetchWord ≠ .setDelay x) : t.dt = s.enterBurst.dt := by
  obtain ⟨u, rfl, ⟨-, rfl⟩ | ⟨hf, he⟩⟩ := step_effect hs h
  · rfl
  · by_contra hne
    obtain ⟨x, hdec⟩ := he.dt_writer hne
    have hpc := s.fetchOutOfRange_eq_false_iff.mp hf
    exact hx.elim (by omega) fun hx => hx x hdec

/-- A step that does not run FX18 leaves ST as the start of its tick made it. -/
theorem step_st_of_ne_setSound (hs : s.halt = none) (h : step s = .next t)
    (hx : s.pc.toNat + 1 > 0xFFF ∨ ∀ x, decode s.fetchWord ≠ .setSound x) : t.st = s.enterBurst.st := by
  obtain ⟨u, rfl, ⟨-, rfl⟩ | ⟨hf, he⟩⟩ := step_effect hs h
  · rfl
  · by_contra hne
    obtain ⟨x, hdec⟩ := he.st_writer hne
    have hpc := s.fetchOutOfRange_eq_false_iff.mp hf
    exact hx.elim (by omega) fun hx => hx x hdec

end Sys2Proof.Machine

namespace Sys2Proof.Proofs

open Sys2Proof.Machine

/-- Settles O53, by the start of the tick and the table of state: no instruction but FX15 writes DT and none but FX18
writes ST. -/
theorem timersChangeOnlyByTickOrWrite : Obligations.TimersChangeOnlyByTickOrWrite := by
  intro s t hs h
  refine ⟨fun x hpc hx => step_dt_of_setDelay hs hpc hx h, fun hx => ?_,
    fun x hpc hx => step_st_of_setSound hs hpc hx h, fun hx => ?_⟩
  · rw [step_dt_of_ne_setDelay hs h hx, State.enterBurst_dt, apply_ite BitVec.toNat, decayed_toNat]
  · rw [step_st_of_ne_setSound hs h hx, State.enterBurst_st, apply_ite BitVec.toNat, decayed_toNat]

/-- Settles O54, by the start of the tick, after which no instruction touches the audio port. -/
theorem audioChangesOnlyAtTick : Obligations.AudioChangesOnlyAtTick := by
  intro s t h
  by_cases hs : s.halt = none
  · rw [(step_keeps_surroundings hs h).1, State.enterBurst_audioPlaying]
    simp only [hs, true_and, decayed_ne_zero_iff]
  · simp [step_of_halted hs h, hs]

/-- Settles O55, by the start of the tick, after which no instruction touches a key port or the configuration or clears
dirty. -/
theorem portsAndConfigurationHold : Obligations.PortsAndConfigurationHold := by
  intro s t h
  by_cases hs : s.halt = none
  · obtain ⟨-, hdown, hreleased, hconfig⟩ := step_keeps_surroundings hs h
    refine ⟨hconfig, ?_, ?_, fun hd hcleared => ?_⟩
    · simp [hdown, State.enterBurst_keysDown, hs]
    · simp [hreleased, State.enterBurst_keysReleased, hs]
    · have hnot : s.enterBurst.dirty ≠ true := fun he => by simp [step_dirty_of_dirty hs h he] at hcleared
      rw [State.enterBurst_dirty, hd] at hnot
      simpa [hs] using hnot
  · simp [step_of_halted hs h, hs]

end Sys2Proof.Proofs
end

section
/-! SUPPORT. The boot load (10_state.md R30, 20_memory.md R53): two stores that do not overlap, into zeroed memory. -/

namespace Sys2Proof.Machine

/-- A load inside memory stores its bytes. -/
theorem State.loadImage_of_le (s : State) {a : Nat} {bs : List Byte} (h : a + bs.length ≤ 4096) :
    s.loadImage a bs = some (s.storeBytes a bs) := if_pos h

/-- A load beyond memory is refused (R53). -/
theorem State.loadImage_of_gt (s : State) {a : Nat} {bs : List Byte} (h : 4096 < a + bs.length) :
    s.loadImage a bs = none := if_neg (not_le.mpr h)

/-- The reset state of a machine of a given configuration, with the font loaded. -/
def State.withFont (config : Config) : State :=
  State.storeBytes { State.reset with config := config } 0 config.font.toList

/-- The boot load is the load of the image over the font, which always fits. -/
theorem State.launch_eq (config : Config) (image : List Byte) :
    State.launch config image = (State.withFont config).loadImage 0x200 image := by
  unfold State.launch State.boot
  rw [State.loadImage_of_le _ (by simp [Config.fontBase])]
  rfl

theorem State.withFont_mem_wf (config : Config) : (State.withFont config).mem.wf :=
  Memory.writeBytes_wf 0 _ Memory.nil_wf

theorem State.byteAt_withFont_font (config : Config) (a : Fin 80) :
    (State.withFont config).byteAt a.val = config.font[a] := by
  have h := State.byteAt_storeBytes_inside { State.reset with config := config } 0 config.font.toList Memory.nil_wf
    a.val (by simp)
  rw [Nat.zero_add] at h
  exact h.trans (Vector.getElem_toList _)

/-- Above the font memory is zero, as reset left it. -/
theorem State.byteAt_withFont_above (config : Config) {a : Nat} (ha : 80 ≤ a) : (State.withFont config).byteAt a = 0 :=
  State.byteAt_storeBytes_outside _ 0 _ (.inr (by simpa using ha))

end Sys2Proof.Machine

namespace Sys2Proof.Proofs

open Sys2Proof.Machine

/-- Settles O58: the image is stored over the font, which it does not overlap. -/
theorem bootLoadsFontAndImage : Obligations.BootLoadsFontAndImage := by
  intro config image
  rw [State.launch_eq]
  refine ⟨fun hlen => ?_, fun hlen => State.loadImage_of_gt _ (by omega)⟩
  refine ⟨_, State.loadImage_of_le _ (by omega), rfl, Memory.writeBytes_wf _ _ (State.withFont_mem_wf config),
    fun a => ?_, fun k => ?_, fun a ha => ?_⟩
  · rw [State.byteAt_storeBytes_outside _ _ _ (.inl (by omega)), State.byteAt_withFont_font]
  · exact State.byteAt_storeBytes_inside _ _ _ (State.withFont_mem_wf config) k.val k.isLt
  · rw [State.byteAt_storeBytes_outside _ _ _ (by omega), State.byteAt_withFont_above config (by omega)]

end Sys2Proof.Proofs
end

section
/-! SUPPORT. The invariant of a safe state over one step (10_state.md R14, 60_exceptions.md R200, R201,
46_step_and_tick.md R186, R189). What memory, pc and stack can hold is kept by the instruction's effect; the latch and the
accumulator are settled by the accounting after it. -/

namespace Sys2Proof.Machine

variable {i : Instr} {s t : State}

/-- The part of the invariant that bounds memory, pc and stack. -/
structure State.InReach (s : State) : Prop where
  memCanonical : s.mem.wf
  memExists : ∀ c ∈ s.mem, c.1 ≤ 0xFFF
  pcReach : s.pc.toNat ≤ 0x10FE
  stackReach : ∀ k : Fin 16, s.stack[k].toNat ≤ 0x1000

/-- A set latch holds a precise record (R200, R201), and no cost was reported. -/
def State.PreciseHalt (s : State) : Prop :=
  ∀ r, s.halt = some r → s.cost = none ∧ 0x1000 ≤ r.addr ∧ r.addr ≤ 0xFFFF ∧
    s.pc = if r.cause = .fetch then r.ipc else r.ipc + 2

/-! ### The accounting -/

theorem burstAfter_lt {acc c b : Nat} (h : burstAfter acc c = some b) : b < 16666 := by
  unfold burstAfter at h
  split at h
  · cases h
  · next hc =>
    injection h with h
    simp only [Config.frameBudget, not_or, not_le] at hc
    omega

/-- A burst that goes on after an instruction has budget left (R186). -/
theorem State.account_burst_lt {acc : Nat} (h : s.account.burst = some acc) : acc < 16666 := by
  unfold State.account at h
  dsimp only at h
  split at h
  · exact burstAfter_lt h
  · cases h

/-- An instruction that reports no cost ends the burst (R189). -/
theorem State.account_burst_of_cost_none (h : s.cost = none) : s.account.burst = none := by
  unfold State.account
  rw [h]
  cases s.burst <;> rfl

/-- The accounting makes the whole invariant of its two halves. -/
theorem State.InReach.inv_account (hr : s.InReach) (hh : s.PreciseHalt) : s.account.Inv where
  memCanonical := hr.memCanonical
  memExists := hr.memExists
  pcReach := hr.pcReach
  stackReach := hr.stackReach
  burstBelowBudget _ h := State.account_burst_lt h
  haltEndsBurst r h := State.account_burst_of_cost_none (hh r h).1
  haltAddr r h := ⟨(hh r h).2.1, (hh r h).2.2.1⟩
  haltPc r h := (hh r h).2.2.2

/-! ### The start of a tick and the halted step -/

theorem State.Inv.inReach (h : s.Inv) : s.InReach := ⟨h.memCanonical, h.memExists, h.pcReach, h.stackReach⟩

theorem State.InReach.enterBurst (h : s.InReach) : s.enterBurst.InReach where
  memCanonical := by simpa using h.memCanonical
  memExists := by simpa using h.memExists
  pcReach := by simpa using h.pcReach
  stackReach := by simpa using h.stackReach

/-- A report changes nothing the invariant speaks of. -/
theorem State.Inv.report (h : s.Inv) (c : Nat) : (s.report c).Inv where
  memCanonical := h.memCanonical
  memExists := h.memExists
  pcReach := h.pcReach
  stackReach := h.stackReach
  burstBelowBudget := h.burstBelowBudget
  haltEndsBurst := h.haltEndsBurst
  haltAddr := h.haltAddr
  haltPc := h.haltPc

/-! ### The fetch fault -/

theorem State.InReach.fetchFault (h : s.InReach) : s.fetchFault.InReach := ⟨h.1, h.2, h.3, h.4⟩

theorem State.preciseHalt_fetchFault (s : State) : s.fetchFault.PreciseHalt := by
  intro r hr
  rw [State.fetchFault_halt] at hr
  injection hr with hr
  subst hr
  have hpc := s.pc.isLt
  exact ⟨rfl, le_max_right _ _, by dsimp only; omega, rfl⟩

/-! ### The effect of an instruction, run with pc just advanced -/

/-- After the advance pc is past the instruction and at most just past memory (30_encoding.md R61). -/
theorem State.advance_pc_bounds (hf : s.fetchOutOfRange = false) :
    2 ≤ s.advance.pc.toNat ∧ s.advance.pc.toNat ≤ 0x1000 := by
  have hpc := s.fetchOutOfRange_eq_false_iff.mp hf
  rw [State.advance_pc, BitVec.toNat_add]
  change 2 ≤ (s.pc.toNat + 2) % 65536 ∧ (s.pc.toNat + 2) % 65536 ≤ 0x1000
  omega

/-- A store of bytes inside memory keeps the canonical form and lists no byte outside. -/
theorem State.Effect.mem_kept (he : s.Effect i t) (hwf : s.mem.wf) (hex : ∀ c ∈ s.mem, c.1 ≤ 0xFFF) :
    t.mem.wf ∧ ∀ c ∈ t.mem, c.1 ≤ 0xFFF := by
  cases he with
  | memory bs c _ hbs =>
    refine ⟨Memory.writeBytes_wf _ bs hwf, fun d hd => ?_⟩
    rcases Memory.mem_writeBytes hd with hd | ⟨-, hlt⟩
    · exact hex d hd
    · omega
  | _ => simpa using And.intro hwf hex

/-- The entry a pop returns is one of the stack. -/
theorem State.top_le {w : Word} (hst : ∀ k : Fin 16, s.stack[k].toNat ≤ 0x1000) (h : s.top = some w) :
    w.toNat ≤ 0x1000 := by
  unfold State.top at h
  split at h
  · injection h with h
    rw [← h]
    exact hst ⟨s.sp.val - 1, by omega⟩
  · cases h

/-- The furthest pc of any instruction run inside memory is BNNN's (10_state.md R14). -/
theorem State.Effect.pc_le (he : s.Effect i t) (hlo : 2 ≤ s.pc.toNat) (hhi : s.pc.toNat ≤ 0x1000)
    (hst : ∀ k : Fin 16, s.stack[k].toNat ≤ 0x1000) : t.pc.toNat ≤ 0x10FE := by
  cases he with
  | jump w _ _ hw => exact hw
  | skip j taken _ =>
    rw [State.skipIf_pc]
    split <;> bv_omega
  | ret w _ hw =>
    exact (State.top_le hst hw).trans (by decide)
  | call nnn _ =>
    have hn := nnn.isLt
    rw [State.report_pc, State.setPc_pc, addrOf_toNat]
    omega
  | keyWait =>
    rw [State.report_pc, State.rewind_pc]
    bv_omega
  | _ => exact le_trans (by simpa using hhi) (show 0x1000 ≤ 0x10FE by decide)

/-- A push keeps every entry within a bound that holds of the pushed word. -/
theorem State.push_stack_le {n : Nat} {w : Word} (hw : w.toNat ≤ n) (hst : ∀ k : Fin 16, s.stack[k].toNat ≤ n)
    (k : Fin 16) : (s.push w).stack[k].toNat ≤ n := by
  rcases Nat.lt_or_eq_of_le (Nat.le_of_lt_succ s.sp.isLt) with hsp | hfull
  · have hget : (s.push w).stack[k] = if (⟨s.sp.val, hsp⟩ : Fin 16) = k then w else s.stack[k] := by
      rw [State.push_of_lt s w hsp]
      exact vector_get_set s.stack ⟨s.sp.val, hsp⟩ k w
    rw [hget]
    split
    · exact hw
    · exact hst k
  · rw [State.push_of_full s w hfull]
    exact hst k

/-- Only a call writes the stack, and it pushes the advanced pc (40_control_flow.md R82). -/
theorem State.Effect.stack_le (he : s.Effect i t) (hhi : s.pc.toNat ≤ 0x1000)
    (hst : ∀ k : Fin 16, s.stack[k].toNat ≤ 0x1000) (k : Fin 16) : t.stack[k].toNat ≤ 0x1000 := by
  cases he with
  | call => exact State.push_stack_le hhi hst k
  | _ => simpa using hst k

theorem State.Effect.inReach (he : s.Effect i t) (h : s.InReach) (hlo : 2 ≤ s.pc.toNat) (hhi : s.pc.toNat ≤ 0x1000) :
    t.InReach :=
  have hmem := he.mem_kept h.memCanonical h.memExists
  ⟨hmem.1, hmem.2, he.pc_le hlo hhi h.stackReach, he.stack_le hhi h.stackReach⟩

theorem State.preciseHalt_dataFault (s : State) {cause : FaultCause} (hc : cause ≠ .fetch) :
    (s.dataFault cause).PreciseHalt := by
  intro r hr
  rw [State.dataFault_halt] at hr
  injection hr with hr
  subst hr
  have hi := s.i.isLt
  refine ⟨rfl, le_max_right _ _, by dsimp only; omega, ?_⟩
  rw [if_neg hc, State.dataFault_pc, BitVec.sub_add_cancel]

/-- An instruction leaves a clear latch clear or sets it with a precise record. -/
theorem State.Effect.preciseHalt (he : s.Effect i t) (hs : s.halt = none) : t.PreciseHalt := by
  cases he with
  | fault cause _ hc => exact s.preciseHalt_dataFault hc
  | _ => exact fun r hr => by simp [hs] at hr

end Sys2Proof.Machine

namespace Sys2Proof.Proofs

open Sys2Proof.Machine

/-- Settles O60: what a step answers is in reach with a precise latch, and the accounting makes the invariant of that. -/
theorem stepKeepsInvariant : Obligations.StepKeepsInvariant := by
  intro s t hinv h
  by_cases hs : s.halt = none
  · have hreach := hinv.inReach.enterBurst
    obtain ⟨u, rfl, ⟨-, rfl⟩ | ⟨hf, he⟩⟩ := step_effect hs h
    · exact hreach.fetchFault.inv_account s.enterBurst.preciseHalt_fetchFault
    · have ⟨hlo, hhi⟩ := State.advance_pc_bounds (s := s.enterBurst) (by simpa using hf)
      have hadv : s.enterBurst.advance.InReach :=
        ⟨hreach.memCanonical, hreach.memExists, by omega, hreach.stackReach⟩
      exact (he.inReach hadv hlo hhi).inv_account (he.preciseHalt (by simpa using hs))
  · rw [step_of_halted hs h]
    exact hinv.report 0

end Sys2Proof.Proofs
end

section
/-! SUPPORT. A program that stores over its next instruction (20_memory.md R57): what FX55 stores of V0..VX inside
memory, and the fetch of two such bytes as one word. -/

namespace Sys2Proof.Machine

/-! ### The block of registers FX55 stores (42_index_memory.md R124) -/

@[simp] theorem State.regBlock_length (s : State) (x : Reg) : (s.regBlock x).length = x.val + 1 := by
  simp [State.regBlock]

theorem State.regBlock_getElem (s : State) {x k : Reg} (h : k.val < (s.regBlock x).length) :
    (s.regBlock x)[k.val] = s.reg k := by
  simp [State.regBlock, State.reg]

/-- A stored register is read back at its place in the block. -/
theorem State.byteAt_storeBytes_regBlock {s : State} (hwf : s.mem.wf) (a : Nat) {k x : Reg} (h : k.val ≤ x.val) :
    (s.storeBytes a (s.regBlock x)).byteAt (a + k.val) = s.reg k := by
  have hk : k.val < (s.regBlock x).length := by simpa using Nat.lt_succ_of_le h
  rw [State.byteAt_storeBytes_inside s a _ hwf k.val hk, State.regBlock_getElem s hk]

/-! ### FX55 inside memory (R126) -/

/-- A transfer whose bytes are all in memory has its whole effect. -/
theorem State.checked_of_le {s : State} {count : Nat} (cause : FaultCause) (e : State)
    (h : s.i.toNat + (count - 1) ≤ 0xFFF) : s.checked cause count e = e := by
  rcases s.checked_cases cause count e with ⟨hout, -⟩ | ⟨-, he⟩
  · have hgt := ((s.outOfRange_iff count).mp hout).2
    omega
  · exact he

theorem exec_store_of_le {s : State} {x : Reg} (h : s.i.toNat + x.val ≤ 0xFFF) :
    exec (.store x) s = .next ((s.storeBytes s.i.toNat (s.regBlock x)).charge (.store x) .done) :=
  congrArg Host.Outcome.next (State.checked_of_le .store _ h)

/-! ### The fetched word (20_memory.md R46) -/

/-- The byte at pc is the high one. -/
theorem State.fetchWord_toNat (s : State) :
    s.fetchWord.toNat = (s.byteAt s.pc.toNat).toNat * 256 + (s.byteAt (s.pc.toNat + 1)).toNat :=
  append_toNat _ _

/-- Registers stored from pc on are the word at pc, V0 the high byte and V1 the low one. -/
theorem State.fetchWord_storeBytes_regBlock {s : State} (hwf : s.mem.wf) {x : Reg} (hx : 1 ≤ x.val) :
    (s.storeBytes s.pc.toNat (s.regBlock x)).fetchWord.toNat = (s.reg 0).toNat * 256 + (s.reg 1).toNat := by
  have hhigh := State.byteAt_storeBytes_regBlock hwf s.pc.toNat (k := 0) (x := x) (Nat.zero_le _)
  have hlow := State.byteAt_storeBytes_regBlock hwf s.pc.toNat (k := 1) hx
  rw [State.fetchWord_toNat, State.storeBytes_pc]
  exact congrArg₂ (fun high low : Byte => high.toNat * 256 + low.toNat) hhigh hlow

end Sys2Proof.Machine

namespace Sys2Proof.Proofs

open Sys2Proof.Machine

/-- Settles O36, by reading V0 and V1 back at pc: the store passes its range check, and the charge after it moves neither
memory nor pc. -/
theorem storedCodeIsFetched : Obligations.StoredCodeIsFetched := by
  intro x s hwf hx hi hrange
  refine ⟨_, exec_store_of_le hrange, rfl, ?_⟩
  rw [hi]
  exact State.fetchWord_storeBytes_regBlock hwf hx

end Sys2Proof.Proofs
end

section
/-! SUPPORT. Encode and decode are inverse to each other (30_encoding.md R62, R63, R72): a word is put together from its
own fields, group by group, and the words left over are the unmatched space of R71. -/

namespace Sys2Proof

/-! ### A word put together from its own fields -/

section
variable {w : Word} {g : BitVec 4}

theorem wordXYN_fields {n : BitVec 4} (hg : (fieldG w).val = g.toNat) (hn : (fieldN w).val = n.toNat) :
    wordXYN g (fieldX w) (fieldY w) n = w := by
  apply BitVec.eq_of_toNat_eq
  rw [wordXYN_toNat, ← hg, ← hn, fieldG_val, fieldX_val, fieldY_val, fieldN_val]
  omega

theorem wordXNN_fields {nn : Byte} (hg : (fieldG w).val = g.toNat) (hnn : (fieldNN w).toNat = nn.toNat) :
    wordXNN g (fieldX w) nn = w := by
  apply BitVec.eq_of_toNat_eq
  rw [wordXNN_toNat, ← hg, ← hnn, fieldG_val, fieldX_val, fieldNN_toNat]
  omega

theorem wordNNN_fields (hg : (fieldG w).val = g.toNat) : wordNNN g (fieldNNN w) = w := by
  apply BitVec.eq_of_toNat_eq
  rw [wordNNN_toNat, ← hg, fieldG_val, fieldNNN_toNat]
  omega

end

@[simp] theorem fieldN_wordXYN_bits4 (g : BitVec 4) (x y : Reg) (n : Nibble) :
    fieldN (wordXYN g x y (bits4 n)) = n := by
  apply Fin.ext
  rw [fieldN_wordXYN, bits4_toNat]

/-! ### The word of a decoded instruction -/

theorem encode_decodeGroup0 (w : Word) : encode (decodeGroup0 w) = w := by
  unfold decodeGroup0
  split
  case isTrue h => exact h.symm
  case isFalse =>
    split
    case isTrue h => exact h.symm
    case isFalse => rfl

theorem encode_decodeGroup8 {w : Word} (hg : (fieldG w).val = 0x8) : encode (decodeGroup8 w) = w := by
  unfold decodeGroup8
  split
  iterate 9 next hn => exact wordXYN_fields hg hn
  rfl

theorem encode_decodeGroupE {w : Word} (hg : (fieldG w).val = 0xE) : encode (decodeGroupE w) = w := by
  unfold decodeGroupE
  split
  iterate 2 next hnn => exact wordXNN_fields hg hnn
  rfl

theorem encode_decodeGroupF {w : Word} (hg : (fieldG w).val = 0xF) : encode (decodeGroupF w) = w := by
  unfold decodeGroupF
  split
  iterate 9 next hnn => exact wordXNN_fields hg hnn
  rfl

/-- No bit of a word is lost in decoding, by the format of its group. -/
theorem encode_decode (w : Word) : encode (decode w) = w := by
  unfold decode
  split
  case h_1 => exact encode_decodeGroup0 w
  case h_9 hg => exact encode_decodeGroup8 hg
  case h_15 hg => exact encode_decodeGroupE hg
  case h_16 => exact encode_decodeGroupF (by grind)
  case h_2 hg | h_3 hg | h_11 hg | h_12 hg => exact wordNNN_fields hg
  case h_4 hg | h_5 hg | h_7 hg | h_8 hg | h_13 hg => exact wordXNN_fields hg rfl
  case h_6 hg | h_10 hg | h_14 hg => exact wordXYN_fields hg rfl

/-! ### The unmatched space (R71) -/

theorem decodeGroup0_eq_unmatched_iff (w : Word) : decodeGroup0 w = .unmatched w ↔ w ≠ 0x00E0 ∧ w ≠ 0x00EE := by
  unfold decodeGroup0
  split
  case isTrue h => simp [h]
  case isFalse hcls =>
    split
    case isTrue h => simp [h]
    case isFalse hret => exact iff_of_true rfl ⟨hcls, hret⟩

theorem decodeGroup8_eq_unmatched_iff (w : Word) :
    decodeGroup8 w = .unmatched w ↔ (fieldN w).val ∈ [0x8, 0x9, 0xA, 0xB, 0xC, 0xD, 0xF] := by
  unfold decodeGroup8
  split
  iterate 9 next hn => simp [hn]
  simp only [List.mem_cons]
  grind

theorem decodeGroupE_eq_unmatched_iff (w : Word) :
    decodeGroupE w = .unmatched w ↔ (fieldNN w).toNat ∉ [0x9E, 0xA1] := by
  unfold decodeGroupE
  split
  iterate 2 next hnn => simp [hnn]
  simp_all

theorem decodeGroupF_eq_unmatched_iff (w : Word) : decodeGroupF w = .unmatched w ↔
    (fieldNN w).toNat ∉ [0x07, 0x0A, 0x15, 0x18, 0x1E, 0x29, 0x33, 0x55, 0x65] := by
  unfold decodeGroupF
  split
  iterate 9 next hnn => simp [hnn]
  simp_all

/-- R71's clauses (a) to (d) on the fields of the word. -/
theorem unmatchedWord_iff (w : Word) : unmatchedWord w = true ↔
    ((fieldG w).val = 0 ∧ w ≠ 0x00E0 ∧ w ≠ 0x00EE) ∨
    ((fieldG w).val = 8 ∧ (fieldN w).val ∈ [0x8, 0x9, 0xA, 0xB, 0xC, 0xD, 0xF]) ∨
    ((fieldG w).val = 0xE ∧ (fieldNN w).toNat ∉ [0x9E, 0xA1]) ∨
    ((fieldG w).val = 0xF ∧ (fieldNN w).toNat ∉ [0x07, 0x0A, 0x15, 0x18, 0x1E, 0x29, 0x33, 0x55, 0x65]) := by
  simp only [unmatchedWord, Bool.or_eq_true, Bool.and_eq_true, beq_iff_eq, bne_iff_ne, List.contains_iff_mem,
    Bool.not_eq_true', ← Bool.not_eq_true, fieldG_val, fieldN_val, fieldNN_toNat, Ne, ← BitVec.toNat_inj,
    or_assoc, and_assoc]
  rfl

/-- The words the decoder leaves unmatched are those of R71's list. -/
theorem decode_eq_unmatched_iff (w : Word) : decode w = .unmatched w ↔ unmatchedWord w = true := by
  rw [unmatchedWord_iff]
  unfold decode
  split
  case h_1 hg => simpa [hg] using decodeGroup0_eq_unmatched_iff w
  case h_9 hg => simpa [hg] using decodeGroup8_eq_unmatched_iff w
  case h_15 hg => simpa [hg] using decodeGroupE_eq_unmatched_iff w
  case h_16 =>
    have hg : (fieldG w).val = 0xF := by grind
    simpa [hg] using decodeGroupF_eq_unmatched_iff w
  all_goals next hg => simp [hg]

theorem wf_decode (w : Word) : (decode w).wf = true := by
  have he := encode_decode w
  cases hi : decode w with
  | unmatched w' =>
    obtain rfl : w' = w := by simpa [hi, encode] using he
    exact (decode_eq_unmatched_iff w').mp hi
  | _ => rfl

/-- A matched instruction is read back from the fields of its format, an unmatched one because its word is in R71's
list. -/
theorem decode_encode {i : Instr} (hi : i.wf = true) : decode (encode i) = i := by
  cases i with
  | unmatched w => exact (decode_eq_unmatched_iff w).mpr hi
  | cls | ret => decide
  | _ => simp [encode, decode, decodeGroup8, decodeGroupE, decodeGroupF]

end Sys2Proof

namespace Sys2Proof.Proofs

/-- Settles O1, instruction by instruction from the fields of its format; the unmatched words are R71's list. -/
theorem decodeOfEncodeIsTheInstruction : Obligations.DecodeOfEncodeIsTheInstruction := fun _ => decode_encode

/-- Settles O2, group by group: a word is put together from its own fields. -/
theorem encodeOfDecodeIsTheWord : Obligations.EncodeOfDecodeIsTheWord := fun w => ⟨encode_decode w, wf_decode w⟩

/-- Settles O5: the list of R71 is what the decoder leaves unmatched, and R88's no-op is the meaning of such a word. -/
theorem unmatchedSpaceIsAsListed : Obligations.UnmatchedSpaceIsAsListed := by
  refine ⟨fun w => ?_, fun w s hw => ?_⟩
  · rw [decode_eq_unmatched_iff, unmatchedWord_iff, fieldG_val, fieldN_val, fieldNN_toNat]
  · rw [hw]
    exact Machine.exec_unmatched w s

/-- Settles O6, by evaluating the decoder on the ten words. -/
theorem sampleWordsDecode : Obligations.SampleWordsDecode := by
  unfold Obligations.SampleWordsDecode
  decide

end Sys2Proof.Proofs
end

section
/-! SUPPORT. The opcode map against the decoder (30_encoding.md R73). A mask keeps exactly the fields the decoder
dispatches on, so a word a row accepts decodes like the row's own pattern; and every word outside the unmatched space
has a row. What is said of the 34 rows alone is checked by evaluation. -/

namespace Sys2Proof

/-! ### The rows -/

theorem mnemonic_decode_pattern : ∀ r ∈ opcodeRows, (decode r.pattern).mnemonic = r.mnemonic := by decide

theorem mnemonic_nodup : (opcodeRows.map OpcodeRow.mnemonic).Nodup := by decide

theorem mnemonic_ne_unmatched : ∀ r ∈ opcodeRows, r.mnemonic ≠ (Instr.unmatched 0).mnemonic := by decide

/-- The mask of a row keeps what the decoder dispatches on in the row's group (R65 to R69). -/
theorem mask_by_group : ∀ r ∈ opcodeRows, r.mask = 0xFFFF ∨
    (r.mask = 0xF000 ∧ (fieldG r.pattern).val ∉ [0x0, 0x8, 0xE, 0xF]) ∨
    (r.mask = 0xF00F ∧ (fieldG r.pattern).val = 0x8) ∨
    (r.mask = 0xF0FF ∧ ((fieldG r.pattern).val = 0xE ∨ (fieldG r.pattern).val = 0xF)) := by decide

theorem exists_row_of_group : ∀ g : Fin 16, g.val ∉ [0x0, 0x8, 0xE, 0xF] →
    ∃ r ∈ opcodeRows, r.mask = 0xF000 ∧ g.val * 4096 = r.pattern.toNat := by decide

theorem exists_row_of_N : ∀ n : Fin 16, n.val ∉ [0x8, 0x9, 0xA, 0xB, 0xC, 0xD, 0xF] →
    ∃ r ∈ opcodeRows, r.mask = 0xF00F ∧ 0x8 * 4096 + n.val = r.pattern.toNat := by decide

theorem exists_row_of_NN_groupE : ∀ nn ∈ [0x9E, 0xA1],
    ∃ r ∈ opcodeRows, r.mask = 0xF0FF ∧ 0xE * 4096 + nn = r.pattern.toNat := by decide

theorem exists_row_of_NN_groupF : ∀ nn ∈ [0x07, 0x0A, 0x15, 0x18, 0x1E, 0x29, 0x33, 0x55, 0x65],
    ∃ r ∈ opcodeRows, r.mask = 0xF0FF ∧ 0xF * 4096 + nn = r.pattern.toNat := by decide

section
variable {w p : Word}

/-! ### A masked word against a pattern -/

theorem and_F000_eq_iff : w &&& 0xF000 = p ↔ (fieldG w).val * 4096 = p.toNat := by
  rw [← BitVec.toNat_inj, mask_F000]

theorem and_F00F_eq_iff : w &&& 0xF00F = p ↔ (fieldG w).val * 4096 + (fieldN w).val = p.toNat := by
  rw [← BitVec.toNat_inj, mask_F00F]

theorem and_F0FF_eq_iff : w &&& 0xF0FF = p ↔ (fieldG w).val * 4096 + (fieldNN w).toNat = p.toNat := by
  rw [← BitVec.toNat_inj, mask_F0FF]

/-! ### What the decoder does not dispatch on does not change the row -/

theorem mnemonic_decode_congr_group (h : fieldG w = fieldG p) (hg : (fieldG p).val ∉ [0x0, 0x8, 0xE, 0xF]) :
    (decode w).mnemonic = (decode p).mnemonic := by
  unfold decode
  rw [h]
  split
  case h_1 hg' | h_9 hg' | h_15 hg' => simp [hg'] at hg
  case h_16 => grind
  all_goals rfl

theorem mnemonic_decode_congr_N (h : fieldG w = fieldG p) (hg : (fieldG p).val = 0x8) (hn : fieldN w = fieldN p) :
    (decode w).mnemonic = (decode p).mnemonic := by
  simp only [decode, h, hg, decodeGroup8, hn]
  split <;> rfl

theorem mnemonic_decode_congr_NN (h : fieldG w = fieldG p) (hg : (fieldG p).val = 0xE ∨ (fieldG p).val = 0xF)
    (hnn : fieldNN w = fieldNN p) : (decode w).mnemonic = (decode p).mnemonic := by
  rcases hg with hg | hg
  · simp only [decode, h, hg, decodeGroupE, hnn]
    split <;> rfl
  · simp only [decode, h, hg, decodeGroupF, hnn]
    split <;> rfl

end

/-! ### Rows and decoded instructions -/

/-- A word a row accepts decodes to an instruction of that row: it agrees with the pattern in the masked fields. -/
theorem mnemonic_decode_of_row {r : OpcodeRow} {w : Word} (hr : r ∈ opcodeRows) (hw : w &&& r.mask = r.pattern) :
    (decode w).mnemonic = r.mnemonic := by
  rw [← mnemonic_decode_pattern r hr]
  have hG := fieldG_val r.pattern
  rcases mask_by_group r hr with hm | ⟨hm, hp⟩ | ⟨hm, hp⟩ | ⟨hm, hp⟩
  · rw [← hw, hm, show w &&& 0xFFFF = w from BitVec.and_allOnes]
  · rw [hm, and_F000_eq_iff] at hw
    exact mnemonic_decode_congr_group (Fin.ext (by omega)) hp
  · rw [hm, and_F00F_eq_iff] at hw
    have hN := fieldN_val r.pattern
    exact mnemonic_decode_congr_N (Fin.ext (by omega)) hp (Fin.ext (by omega))
  · rw [hm, and_F0FF_eq_iff] at hw
    have hNN := fieldNN_toNat r.pattern
    exact mnemonic_decode_congr_NN (Fin.ext (by omega)) hp (BitVec.eq_of_toNat_eq (by omega))

/-- Outside the unmatched space some row accepts the word. -/
theorem exists_row_of_matched {w : Word} (hw : ¬unmatchedWord w = true) :
    ∃ r ∈ opcodeRows, w &&& r.mask = r.pattern := by
  rw [unmatchedWord_iff] at hw
  push Not at hw
  obtain ⟨h0, h8, hE, hF⟩ := hw
  by_cases hg : (fieldG w).val ∉ [0x0, 0x8, 0xE, 0xF]
  · obtain ⟨r, hr, hm, hp⟩ := exists_row_of_group _ hg
    exact ⟨r, hr, by rw [hm, and_F000_eq_iff, hp]⟩
  simp only [not_not, List.mem_cons, List.not_mem_nil, or_false] at hg
  rcases hg with hg | hg | hg | hg
  · by_cases hcls : w = 0x00E0
    · subst hcls
      decide
    · obtain rfl : w = 0x00EE := h0 hg hcls
      decide
  · obtain ⟨r, hr, hm, hp⟩ := exists_row_of_N _ (h8 hg)
    exact ⟨r, hr, by rw [hm, and_F00F_eq_iff, hg, hp]⟩
  · obtain ⟨r, hr, hm, hp⟩ := exists_row_of_NN_groupE _ (hE hg)
    exact ⟨r, hr, by rw [hm, and_F0FF_eq_iff, hg, hp]⟩
  · obtain ⟨r, hr, hm, hp⟩ := exists_row_of_NN_groupF _ (hF hg)
    exact ⟨r, hr, by rw [hm, and_F0FF_eq_iff, hg, hp]⟩

end Sys2Proof

namespace Sys2Proof.Proofs

/-- Settles O3: a row that accepts a word names what it decodes to, a word outside the unmatched space has a row, and no
two rows share a mnemonic. -/
theorem opcodeMapMatchesDecoder : Obligations.OpcodeMapMatchesDecoder := by
  intro w
  rw [decode_eq_unmatched_iff]
  by_cases hu : unmatchedWord w = true
  · have hname (r : OpcodeRow) (hr : r ∈ opcodeRows) : r.mnemonic ≠ (decode w).mnemonic := by
      rw [(decode_eq_unmatched_iff w).mpr hu]
      exact mnemonic_ne_unmatched r hr
    have hnone (r : OpcodeRow) (hr : r ∈ opcodeRows) : w &&& r.mask ≠ r.pattern :=
      fun hw => hname r hr (mnemonic_decode_of_row hr hw).symm
    exact ⟨fun r hr => iff_of_false (hnone r hr) (hname r hr), iff_of_true hnone hu⟩
  · obtain ⟨r', hr', hw'⟩ := exists_row_of_matched hu
    refine ⟨fun r hr => ⟨fun hw => (mnemonic_decode_of_row hr hw).symm, fun hname => ?_⟩,
      iff_of_false (fun hnone => hnone r' hr' hw') hu⟩
    obtain rfl : r = r' :=
      List.inj_on_of_nodup_map mnemonic_nodup hr hr' (hname.trans (mnemonic_decode_of_row hr' hw'))
    exact hw'

end Sys2Proof.Proofs
end

section
/-! SUPPORT. The ignored nibble of groups 5 and 9 (30_encoding.md R70). -/

namespace Sys2Proof

section
variable {w w' : Word}

theorem decode_of_group5 (hg : (fieldG w).val = 0x5) : decode w = .skipEqReg (fieldX w) (fieldY w) (fieldN w) := by
  simp only [decode, hg]

theorem decode_of_group9 (hg : (fieldG w).val = 0x9) : decode w = .skipNeReg (fieldX w) (fieldY w) (fieldN w) := by
  simp only [decode, hg]

/-- Words that differ only in `N` have the other fields in common. -/
theorem fields_eq_of_div_eq (h : w.toNat / 16 = w'.toNat / 16) :
    fieldG w = fieldG w' ∧ fieldX w = fieldX w' ∧ fieldY w = fieldY w' := by
  simp only [Fin.ext_iff, fieldG_val, fieldX_val, fieldY_val]
  omega

end

end Sys2Proof

namespace Sys2Proof.Proofs

open Sys2Proof.Machine

/-- Settles O4: both words decode to the skip on the same X and Y, and its meaning does not read N. -/
theorem lowNibbleOfGroups5And9Ignored : Obligations.LowNibbleOfGroups5And9Ignored := by
  refine ⟨fun w w' s hww hg => ?_, by decide⟩
  obtain ⟨hG, hX, hY⟩ := fields_eq_of_div_eq hww
  rw [← fieldG_val] at hg ⊢
  rcases hg with hg | hg
  · rw [decode_of_group5 hg, decode_of_group5 (hG ▸ hg), hX, hY, hg]
    exact ⟨rfl, rfl⟩
  · rw [decode_of_group9 hg, decode_of_group9 (hG ▸ hg), hX, hY, hg]
    exact ⟨rfl, rfl⟩

end Sys2Proof.Proofs
end

section
/-! SUPPORT. One Step in plain arithmetic (46_step_and_tick.md R180, 30_encoding.md R61). -/

namespace Sys2Proof.Machine

/-- The advance of pc by 2 mod 65536 (R61). -/
theorem State.advance_eq (s : State) : s.advance = { s with pc := wordOf ((s.pc.toNat + 2) % 65536) } := by
  rw [show wordOf ((s.pc.toNat + 2) % 65536) = s.pc + 2 from BitVec.eq_of_toNat_eq (by simp [BitVec.toNat_add])]
  rfl

theorem runInstruction_of_halted {s : State} (hs : s.halt.isSome = true) : runInstruction s = .next (s.report 0) :=
  if_pos hs

end Sys2Proof.Machine

namespace Sys2Proof.Proofs

open Sys2Proof.Machine

/-- Settles O7, by the cases of Step: halted, out of memory at the fetch, or the decoded word from the advanced pc. -/
theorem stepFetchesThenRuns : Obligations.StepFetchesThenRuns := by
  refine fun s => ⟨runInstruction_of_halted, fun hs hpc => ?_, fun hs hpc => ?_⟩
  · rcases runInstruction_cases hs with ⟨-, hr⟩ | ⟨hf, -⟩
    · exact hr
    · rw [State.fetchOutOfRange_eq_false_iff] at hf
      omega
  · rcases runInstruction_cases hs with ⟨hf, -⟩ | ⟨-, t, ht, hr⟩
    · rw [State.fetchOutOfRange_iff] at hf
      omega
    · rw [State.advance_eq] at ht
      refine ⟨t, hr, ?_⟩
      rwa [← State.fetchWord_toNat, wordOf, BitVec.ofNat_toNat, BitVec.setWidth_eq]

end Sys2Proof.Proofs
end

section
/-! SUPPORT. The control flow instructions as updates of pc and the stack (40_control_flow.md R80 to R87). -/

namespace Sys2Proof.Machine

/-! ### Addresses in plain arithmetic -/

theorem wordOf_add (a b : Word) : wordOf ((a.toNat + b.toNat) % 65536) = a + b :=
  BitVec.eq_of_toNat_eq (by simp [BitVec.toNat_add])

theorem addrOf_eq (nnn : Addr12) : addrOf nnn = wordOf nnn.toNat := (BitVec.ofNat_toNat 16 nnn).symm

theorem word_add_two (w : Word) : w + 2 = wordOf ((w.toNat + 2) % 65536) := (wordOf_add w 2).symm

/-- The target of BNNN (R83). -/
theorem State.jumpV0_target_eq (s : State) (nnn : Addr12) :
    addrOf nnn + s.regWord 0 = wordOf ((nnn.toNat + (s.reg 0).toNat) % 65536) := by
  rw [← wordOf_add, addrOf_toNat, State.regWord_toNat]

/-! ### The figures of the cost table (46_step_and_tick.md R182) -/

/-- On a machine that departs nowhere a cost is the table's figure. -/
theorem State.figure_costOf (s : State) (i : Instr) (o : CostOutcome) :
    s.Figure (s.costOf i o) (givenCost s.config.costs i o).toNat := fun h => State.costOf_given h i o

/-! ### Return and call (R80, R82) -/

section
variable {s : State}

theorem exec_ret_of_empty (h : s.sp.val = 0) : exec .ret s = .next (s.charge .ret .saturated) := by
  simp only [exec, execRet, s.top_of_zero h]

/-- The entry popped is the new pc; none is erased. -/
theorem exec_ret_of_entry (k : Fin 16) (h : s.sp.val = k.val + 1) :
    exec .ret s = .next { s with sp := k.castSucc, pc := s.stack[k], cost := some (s.costOf .ret .done) } := by
  have hsp : s.drop.sp = k.castSucc := Fin.ext (by simp [State.drop, h])
  simp only [exec, execRet, s.top_of_pos k h]
  rw [← hsp]
  rfl

theorem exec_call_of_room (nnn : Addr12) (k : Fin 16) (h : s.sp.val = k.val) :
    exec (.call nnn) s = .next { s with
      stack := s.stack.set k s.pc, sp := k.succ, pc := addrOf nnn, cost := some (s.costOf (.call nnn) .done) } := by
  have hlt : s.sp.val < 16 := h ▸ k.isLt
  simp only [exec, execCall, s.push_of_lt s.pc hlt, h, k.isLt, if_true]
  rfl

/-- The push is dropped, the jump taken. -/
theorem exec_call_of_full (nnn : Addr12) (h : s.sp.val = 16) :
    exec (.call nnn) s = .next ((s.setPc (addrOf nnn)).charge (.call nnn) .saturated) := by
  simp only [exec, execCall, s.push_of_full s.pc h, h, lt_irrefl, if_false]

end

/-! ### Skips (R84 to R87) -/

/-- A skip on equal bytes, compared as numbers. -/
theorem State.skipIf_beq (s : State) (i : Instr) (a b : Byte) :
    s.skipIf i (a == b) = { s with
      pc := if a.toNat = b.toNat then wordOf ((s.pc.toNat + 2) % 65536) else s.pc,
      cost := some (s.costOf i (if a.toNat = b.toNat then .taken else .notTaken)) } := by
  simp only [State.skipIf_eq, word_add_two, beq_iff_eq, BitVec.toNat_inj]

/-- A skip on different bytes, compared as numbers. -/
theorem State.skipIf_bne (s : State) (i : Instr) (a b : Byte) :
    s.skipIf i (a != b) = { s with
      pc := if a.toNat = b.toNat then s.pc else wordOf ((s.pc.toNat + 2) % 65536),
      cost := some (s.costOf i (if a.toNat = b.toNat then .notTaken else .taken)) } := by
  simp only [State.skipIf_eq, word_add_two, bne_iff_ne, BitVec.toNat_inj, ite_not]

end Sys2Proof.Machine

namespace Sys2Proof.Proofs

open Sys2Proof.Machine

/-- Settles O13, by whether the stack holds an entry. -/
theorem returnPopsOrFallsThrough : Obligations.ReturnPopsOrFallsThrough := fun s =>
  ⟨exec_ret_of_empty, exec_ret_of_entry, s.figure_costOf .ret .done, s.figure_costOf .ret .saturated⟩

/-- Settles O14: the targets of both jumps in plain arithmetic. -/
theorem jumpsSetPc : Obligations.JumpsSetPc := by
  intro nnn s
  rw [← addrOf_eq, ← State.jumpV0_target_eq]
  exact ⟨rfl, rfl, s.figure_costOf (.jump nnn) .done, s.figure_costOf (.jumpV0 nnn) .done⟩

/-- Settles O15, by whether the stack has room. -/
theorem callPushesAndJumps : Obligations.CallPushesAndJumps := by
  intro nnn s
  rw [← addrOf_eq]
  exact ⟨exec_call_of_room nnn, exec_call_of_full nnn, s.figure_costOf (.call nnn) .done,
    s.figure_costOf (.call nnn) .saturated⟩

/-- Settles O16: the two skips on a register and an immediate. -/
theorem immediateSkipsCompare : Obligations.ImmediateSkipsCompare := fun x nn s =>
  ⟨congrArg _ (s.skipIf_beq _ (s.reg x) nn), congrArg _ (s.skipIf_bne _ (s.reg x) nn),
    s.figure_costOf (.skipEqImm x nn) .taken, s.figure_costOf (.skipEqImm x nn) .notTaken,
    s.figure_costOf (.skipNeImm x nn) .taken, s.figure_costOf (.skipNeImm x nn) .notTaken⟩

/-- Settles O17: the two skips on two registers, charged as the word with nibble 0. -/
theorem registerSkipsCompare : Obligations.RegisterSkipsCompare := fun x y _ s =>
  ⟨congrArg _ (s.skipIf_beq _ (s.reg x) (s.reg y)), congrArg _ (s.skipIf_bne _ (s.reg x) (s.reg y)),
    s.figure_costOf (.skipEqReg x y 0) .taken, s.figure_costOf (.skipEqReg x y 0) .notTaken,
    s.figure_costOf (.skipNeReg x y 0) .taken, s.figure_costOf (.skipNeReg x y 0) .notTaken⟩

end Sys2Proof.Proofs
end

section
/-! SUPPORT. Calls and as many returns (40_control_flow.md R80, R82): the returns give back pc and sp and leave every entry
that was in use before the calls, which is what lets the calls nest. -/

namespace Sys2Proof.Machine

/-- `t` is back where `s` was: the same pc, and a call stack with the same entries in use. -/
structure State.BackAt (s t : State) : Prop where
  pc : t.pc = s.pc
  sp : t.sp = s.sp
  inUse : ∀ k : Fin 16, k.val < s.sp.val → t.stack[k] = s.stack[k]

theorem execAll_cons {i : Instr} {s t : State} (h : exec i s = .next t) (is : List Instr) :
    execAll (i :: is) s = execAll is t := by
  simp only [execAll, h]

theorem execAll_concat {is : List Instr} {i : Instr} {s t u : State} (hs : execAll is s = some t)
    (hi : exec i t = .next u) : execAll (is ++ [i]) s = some u := by
  induction is generalizing s with
  | nil =>
    injection hs with hs
    rw [List.nil_append, execAll_cons (hs ▸ hi)]
    rfl
  | cons j js ih =>
    obtain ⟨v, hv⟩ := exec_answers_next j s
    rw [execAll_cons hv] at hs
    rw [List.cons_append, execAll_cons hv]
    exact ih hs

/-- A return from where a call went ends where the call was made, whatever ran in between above the call's entry. -/
theorem exec_ret_backAt {s c u : State} {nnn : Addr12} (k : Fin 16) (h : s.sp.val = k.val)
    (hc : exec (.call nnn) s = .next c) (hu : c.BackAt u) : ∃ t, exec .ret u = .next t ∧ s.BackAt t := by
  rw [exec_call_of_room nnn k h] at hc
  injection hc with hc
  subst hc
  obtain ⟨-, hsp, hinUse⟩ := hu
  have hentry : ∀ j : Fin 16, j ≤ k → u.stack[j] = if k = j then s.pc else s.stack[j] := fun j hj =>
    (hinUse j (Nat.lt_succ_of_le hj)).trans (vector_get_set s.stack k j s.pc)
  refine ⟨_, exec_ret_of_entry k (congrArg Fin.val hsp), ?_, Fin.ext h.symm, fun j hj => ?_⟩
  · exact (hentry k le_rfl).trans (if_pos rfl)
  · have hlt : j < k := hj.trans_eq h
    exact (hentry j hlt.le).trans (if_neg hlt.ne')

theorem execAll_calls_returns (targets : List Addr12) (s : State) (h : s.sp.val + targets.length ≤ 16) :
    ∃ t, execAll (targets.map .call ++ List.replicate targets.length .ret) s = some t ∧ s.BackAt t := by
  induction targets generalizing s with
  | nil => exact ⟨s, rfl, rfl, rfl, fun _ _ => rfl⟩
  | cons nnn targets ih =>
    rw [List.length_cons] at h
    obtain ⟨k, hk⟩ : ∃ k : Fin 16, s.sp.val = k.val := ⟨⟨s.sp.val, by omega⟩, rfl⟩
    obtain ⟨c, hc, hsp⟩ : ∃ c, exec (.call nnn) s = .next c ∧ c.sp = k.succ := ⟨_, exec_call_of_room nnn k hk, rfl⟩
    obtain ⟨u, hu, hback⟩ := ih c (by rw [hsp, Fin.val_succ]; omega)
    obtain ⟨t, ht, hback⟩ := exec_ret_backAt k hk hc hback
    refine ⟨t, ?_, hback⟩
    rw [List.length_cons, List.replicate_succ', List.map_cons, List.cons_append, execAll_cons hc, ← List.append_assoc]
    exact execAll_concat hu ht

end Sys2Proof.Machine

namespace Sys2Proof.Proofs

open Sys2Proof.Machine

/-- Settles O19, by induction on the calls: between a call and its return the others come back to where it went. -/
theorem nestedCallsReturn : Obligations.NestedCallsReturn := by
  intro targets s h
  obtain ⟨t, ht, hback⟩ := execAll_calls_returns targets s h
  exact ⟨t, ht, hback.pc, hback.sp⟩

end Sys2Proof.Proofs
end

section
/-! SUPPORT. What control flow leaves alone, and the unmatched word over a step (40_control_flow.md R88). -/

namespace Sys2Proof.Machine

/-- The instructions of 40_control_flow.md. -/
def IsControlFlow (i : Instr) : Prop :=
  i = .ret ∨ (∃ nnn, i = .jump nnn ∨ i = .call nnn ∨ i = .jumpV0 nnn) ∨
  (∃ x nn, i = .skipEqImm x nn ∨ i = .skipNeImm x nn) ∨
  (∃ x y n, i = .skipEqReg x y n ∨ i = .skipNeReg x y n) ∨ ∃ w, i = .unmatched w

/-- Control flow changes only pc, the stack and the cost. -/
theorem exec_controlFlow_eq {i : Instr} (hi : IsControlFlow i) (s : State) : ∃ pc stack sp cost,
    exec i s = .next { s with pc := pc, stack := stack, sp := sp, cost := cost } := by
  obtain rfl | hjump | hskip | hskip | ⟨w, rfl⟩ := hi
  · simp only [exec, execRet]
    cases s.top with
    | some w => exact ⟨_, _, _, _, rfl⟩
    | none => exact ⟨_, _, _, _, rfl⟩
  · obtain ⟨nnn, rfl | rfl | rfl⟩ := hjump
    · exact ⟨_, _, _, _, rfl⟩
    · simp only [exec, execCall]
      rw [State.push_eq]
      exact ⟨_, _, _, _, rfl⟩
    · exact ⟨_, _, _, _, rfl⟩
  · obtain ⟨x, nn, rfl | rfl⟩ := hskip <;> exact ⟨_, _, _, _, congrArg _ (s.skipIf_eq _ _)⟩
  · obtain ⟨x, y, n, rfl | rfl⟩ := hskip <;> exact ⟨_, _, _, _, congrArg _ (s.skipIf_eq _ _)⟩
  · exact ⟨_, _, _, _, rfl⟩

/-- A report of cost 0 ends the burst (46_step_and_tick.md R186). -/
theorem State.account_report_zero (s : State) : (s.report 0).account = { s with cost := some 0, burst := none } := by
  have hburst : (s.report 0).account.burst = none := by
    cases h : s.burst <;> simp [State.account, burstAfter, h]
  rw [← hburst]
  rfl

/-- A step that fetches an unmatched word starts its tick where one is due, passes over the word and ends the burst. -/
theorem step_of_unmatched_eq {s : State} {w : Word} (hs : s.halt = none) (hpc : s.pc.toNat + 1 ≤ 0xFFF)
    (hw : decode s.fetchWord = .unmatched w) :
    step s = .next { s.enterBurst with pc := s.pc + 2, cost := some 0, burst := none } := by
  obtain ⟨t, ht⟩ := step_answers_next s
  obtain ⟨u, hu, rfl⟩ := step_of_fetched hs hpc ht
  rw [hw, exec_unmatched] at hu
  injection hu with hu
  rw [ht, ← hu, State.account_report_zero, ← s.enterBurst_pc]
  rfl

end Sys2Proof.Machine

namespace Sys2Proof.Proofs

open Sys2Proof.Machine

/-- Settles O20, by the state control flow answers and, for the stack, the table of its writers. -/
theorem controlFlowFrame : Obligations.ControlFlowFrame := by
  intro i s t hi h
  have he : s.Effect i t := exec_effect h
  have hstack : i ≠ .ret → (∀ nnn, i ≠ .call nnn) → KeepsStack s t := fun hret hcall =>
    ⟨not_imp_comm.mp he.stack_writer (not_exists.mpr hcall),
      not_imp_comm.mp he.sp_writer (not_or.mpr ⟨hret, not_exists.mpr hcall⟩)⟩
  obtain ⟨pc, stack, sp, cost, heq⟩ := exec_controlFlow_eq hi s
  rw [heq] at h
  injection h with h
  subst h
  exact ⟨fun _ _ => rfl, fun _ => rfl, ⟨rfl, rfl⟩, ⟨fun _ _ => rfl, rfl⟩, he.keepsSurroundings, rfl, rfl, rfl, hstack⟩

/-- Settles O18: the decoder's unmatched space, the no-op, and the burst ended by its cost 0. -/
theorem unmatchedWordIsNoOp : Obligations.UnmatchedWordIsNoOp := by
  intro w s hw
  have hdec : decode w = .unmatched w := (decode_eq_unmatched_iff w).mpr hw
  exact ⟨hdec, exec_unmatched w s, fun hs hpc hfetch => step_of_unmatched_eq hs hpc (hfetch ▸ hdec)⟩

end Sys2Proof.Proofs
end

section
/-! SUPPORT. The instructions of 41_alu.md as updates of the registers, their results and flags in plain arithmetic
(R100 to R111, R113). -/

namespace Sys2Proof.Machine

/-! ### Results (R113: unsigned, mod 256) -/

theorem byteOf_mod (n : Nat) : byteOf (n % 256) = byteOf n := BitVec.eq_of_toNat_eq (by simp)

theorem byteOf_add (a b : Byte) : byteOf (a.toNat + b.toNat) = a + b :=
  BitVec.eq_of_toNat_eq (by simp [BitVec.toNat_add])

theorem byteOf_sub (a b : Byte) : byteOf (256 + a.toNat - b.toNat) = a - b := by
  apply BitVec.eq_of_toNat_eq
  have hb := b.isLt
  rw [BitVec.toNat_ofNat, BitVec.toNat_sub]
  omega

theorem byteOf_half (a : Byte) : byteOf (a.toNat / 2) = a >>> 1 := by
  apply BitVec.eq_of_toNat_eq
  have ha := a.isLt
  rw [BitVec.toNat_ofNat, BitVec.toNat_ushiftRight, Nat.shiftRight_eq_div_pow]
  omega

theorem byteOf_double (a : Byte) : byteOf (a.toNat * 2) = a <<< 1 :=
  BitVec.eq_of_toNat_eq (by simp [BitVec.toNat_shiftLeft, Nat.shiftLeft_eq])

/-! ### Flags -/

theorem carryOut_eq (a b : Byte) : carryOut a b = if a.toNat + b.toNat > 255 then 1 else 0 := by
  simp [carryOut, flagByte]

theorem noBorrow_eq (a b : Byte) : noBorrow a b = if a.toNat > b.toNat then 1 else 0 := by
  simp [noBorrow, flagByte]

theorem flagByte_decide_eq_one {n : Nat} (h : n < 2) : flagByte (decide (n = 1)) = byteOf n := by
  interval_cases n <;> rfl

theorem bitOutRight_eq (a : Byte) : bitOutRight a = byteOf (a.toNat % 2) := by
  have hbit : a.getLsbD 0 = decide (a.toNat % 2 = 1) := by simp [BitVec.getLsbD, Nat.testBit_zero]
  rw [bitOutRight, hbit, flagByte_decide_eq_one (Nat.mod_lt _ two_pos)]

theorem bitOutLeft_eq (a : Byte) : bitOutLeft a = byteOf (a.toNat / 128) := by
  have ha : a.toNat / 128 < 2 := by have := a.isLt; omega
  have hbit : a.getLsbD 7 = decide (a.toNat / 128 = 1) := by
    rw [BitVec.getLsbD, Nat.testBit_eq_decide_div_mod_eq, Nat.mod_eq_of_lt ha]
  rw [bitOutLeft, hbit, flagByte_decide_eq_one ha]

/-! ### The result and its flag (R112) -/

theorem State.writeResultAndFlag_v (s : State) (x : Reg) (r f : Byte) :
    (s.writeResultAndFlag x r f).v = s.withResultAndFlag x r f := by
  unfold State.writeResultAndFlag State.withResultAndFlag
  cases s.config.vfWriteOrder <;> rfl

/-- What a flag writer answers: its two writes and its cost. -/
theorem State.charge_writeResultAndFlag (s : State) (x : Reg) (r f : Byte) (i : Instr) (o : CostOutcome) :
    (s.writeResultAndFlag x r f).charge i o =
      { s with v := s.withResultAndFlag x r f, cost := some (s.costOf i o) } := by
  rw [State.charge, State.writeResultAndFlag_costOf, ← State.writeResultAndFlag_v]
  exact congrArg (State.report · (s.costOf i o)) (s.writeResultAndFlag_eq x r f)

end Sys2Proof.Machine

namespace Sys2Proof.Proofs

open Sys2Proof.Machine

/-- Settles O21: one register is written, the sum mod 256. -/
theorem loadAddCopyResults : Obligations.LoadAddCopyResults := by
  intro x y nn s
  rw [byteOf_mod, byteOf_add]
  exact ⟨rfl, rfl, rfl, s.figure_costOf (.setImm x nn) .done, s.figure_costOf (.addImm x nn) .done,
    s.costOf_pos (.copy x y) .done, s.figure_costOf (.copy x y) .done⟩

/-- Settles O22: the bits of the three bitwise operations. -/
theorem logicResults : Obligations.LogicResults := fun x y s =>
  ⟨s.reg x ||| s.reg y, s.reg x &&& s.reg y, s.reg x ^^^ s.reg y, rfl, rfl, rfl,
    fun _ _ => ⟨BitVec.getLsbD_or, BitVec.getLsbD_and, BitVec.getLsbD_xor⟩,
    s.figure_costOf (.or x y) .done, s.figure_costOf (.and x y) .done, s.figure_costOf (.xor x y) .done⟩

/-- Settles O23: the sum mod 256 and its carry, written by the one operation of R112. -/
theorem addResultAndCarry : Obligations.AddResultAndCarry := by
  intro x y s
  rw [byteOf_mod, byteOf_add, ← carryOut_eq]
  exact ⟨congrArg _ (s.charge_writeResultAndFlag ..), s.figure_costOf (.add x y) .done⟩

/-- Settles O24: both differences mod 256 and their strict no-borrow flags, written by the one operation of R112. -/
theorem subtractResultAndNoBorrow : Obligations.SubtractResultAndNoBorrow := by
  intro x y s
  rw [byteOf_mod, byteOf_mod, byteOf_sub, byteOf_sub, ← noBorrow_eq, ← noBorrow_eq]
  exact ⟨congrArg _ (s.charge_writeResultAndFlag ..), congrArg _ (s.charge_writeResultAndFlag ..),
    s.figure_costOf (.sub x y) .done, s.figure_costOf (.subn x y) .done⟩

/-- Settles O25: the shifts as a half and a double, the bit shifted out as what that drops. -/
theorem shiftResultAndBitOut : Obligations.ShiftResultAndBitOut := by
  intro x y s
  rw [byteOf_half, byteOf_mod, byteOf_double, ← bitOutRight_eq, ← bitOutLeft_eq]
  exact ⟨congrArg _ (s.charge_writeResultAndFlag ..), congrArg _ (s.charge_writeResultAndFlag ..),
    s.figure_costOf (.shr x 0) .done, s.figure_costOf (.shl x 0) .done⟩

/-- Settles O26: the bits of the drawn byte under the mask. -/
theorem randomIsMaskedFreeByte : Obligations.RandomIsMaskedFreeByte := by
  intro x nn s
  refine ⟨s.randomByte &&& nn, rfl, fun k _ => ?_, ?_, s.costOf_pos (.random x nn) .done,
    s.figure_costOf (.random x nn) .done⟩
  · rw [BitVec.getLsbD_and, Bool.and_comm]
    rfl
  · rintro rfl
    exact BitVec.and_zero

end Sys2Proof.Proofs
end

section
/-! SUPPORT. The two write orders of a result and its flag (41_alu.md R112): only VF can tell them apart, and only where
the result is written there too. -/

namespace Sys2Proof.Machine

theorem State.v_ext {s t : State} (h : ∀ r : Reg, t.reg r = s.reg r) : t.v = s.v :=
  Vector.ext fun k hk => h ⟨k, hk⟩

theorem flagByte_toNat_le_one (b : Bool) : (flagByte b).toNat ≤ 1 := by
  cases b <;> decide

/-- Outside VF the result is in VX and nothing else is written, in either order. -/
theorem State.reg_writeResultAndFlag_of_ne (s : State) (x : Reg) (r f : Byte) {y : Reg} (hy : y ≠ 15) :
    (s.writeResultAndFlag x r f).reg y = if y = x then r else s.reg y := by
  rw [State.reg_writeResultAndFlag, if_neg (show y ≠ vf from hy)]

/-- The order of the two writes shows only in VF, and only where the result is written there too. -/
theorem State.reg_writeResultAndFlag_congr {s t : State} (hv : t.v = s.v) {x y : Reg} (r f : Byte)
    (h : x ≠ 15 ∨ y ≠ 15) : (t.writeResultAndFlag x r f).reg y = (s.writeResultAndFlag x r f).reg y := by
  by_cases hy : y = 15
  · have hx : x ≠ 15 := h.resolve_right (not_not_intro hy)
    rw [hy, t.reg_vf_writeResultAndFlag hx, s.reg_vf_writeResultAndFlag hx]
  · rw [t.reg_writeResultAndFlag_of_ne x r f hy, s.reg_writeResultAndFlag_of_ne x r f hy, State.reg_of_v_eq hv]

/-- With the flag written last VF ends as the flag. -/
theorem State.reg_vf_of_flagLast {s : State} (h : s.config.vfWriteOrder = .flagLast) (x : Reg) (r f : Byte) :
    (s.writeResultAndFlag x r f).reg 15 = f := by
  rw [State.reg_writeResultAndFlag, if_pos (show (15 : Reg) = vf from rfl), if_neg (by simp [h])]

/-- With the result written last and named there, VF ends as the result. -/
theorem State.reg_vf_of_resultLast {s : State} (h : s.config.vfWriteOrder = .resultLast) (r f : Byte) :
    (s.writeResultAndFlag 15 r f).reg 15 = r := by
  rw [State.reg_writeResultAndFlag, if_pos (show (15 : Reg) = vf from rfl), if_pos ⟨rfl, h⟩]

/-- What a flag writer writes is read from the registers alone, so it is the same under another configuration; for 8XY4
the result is the sum. -/
theorem exec_flagWriter_of_config {i : Instr} {x : Reg} (h : aluWrites i = some [x, 15]) (s : State) (config : Config) :
    ∃ r flag c c', exec i s = .next ((s.writeResultAndFlag x r (flagByte flag)).report c) ∧
      exec i { s with config := config } =
        .next ((State.writeResultAndFlag { s with config := config } x r (flagByte flag)).report c') ∧
      ∀ y, i = .add x y → r = s.reg x + s.reg y := by
  cases i with
  | add =>
    cases h
    exact ⟨_, _, _, _, rfl, rfl, fun _ hadd => by cases hadd; rfl⟩
  | sub | shr | subn | shl =>
    cases h
    exact ⟨_, _, _, _, rfl, rfl, nofun⟩
  | _ => cases h

end Sys2Proof.Machine

namespace Sys2Proof.Proofs

open Sys2Proof.Machine

/-- Settles O27: under both orders the same result and flag are written, and only VF can tell the orders apart. -/
theorem flagWriteOrder : Obligations.FlagWriteOrder := by
  intro i x s c c' hi
  obtain ⟨r, flag, cost, cost', ht, ht', hsum⟩ := exec_flagWriter_of_config hi
    { s with config := { c with vfWriteOrder := .flagLast } } { c' with vfWriteOrder := .resultLast }
  refine ⟨_, _, ht, ht', fun hx => State.v_ext fun y => ?_, ?_, fun y hy => ?_, ?_⟩
  · rw [State.reg_report, State.reg_report]
    exact State.reg_writeResultAndFlag_congr (by rfl) r (flagByte flag) (.inl hx)
  · rw [State.reg_report, State.reg_vf_of_flagLast rfl]
    exact flagByte_toNat_le_one flag
  · rw [State.reg_report, State.reg_report]
    exact State.reg_writeResultAndFlag_congr (by rfl) r (flagByte flag) (.inr hy)
  · rintro rfl y hadd
    rw [State.reg_report, State.reg_vf_of_resultLast rfl, byteOf_add]
    exact hsum y hadd

end Sys2Proof.Proofs
end

section
/-! SUPPORT. What the instructions of 41_alu.md leave alone (R114). -/

namespace Sys2Proof.Machine

/-- An instruction of 41_alu.md changes only the registers it lists, the count of random bytes drawn and the cost. -/
theorem exec_alu_eq {i : Instr} {written : List Reg} (h : aluWrites i = some written) (s : State) :
    ∃ v draws cost, exec i s = .next { s with v := v, draws := draws, cost := cost } ∧
      ∀ r, r ∉ written → v[r] = s.v[r] := by
  cases i with
  | setImm x | addImm x | copy x | or x | and x | xor x | random x =>
    cases h
    refine ⟨_, _, _, rfl, fun r hr => ?_⟩
    exact (vector_get_set s.v x r _).trans (if_neg fun e => hr (List.mem_singleton.mpr e.symm))
  | add x | sub x | shr x | subn x | shl x =>
    cases h
    refine ⟨_, s.draws, _, congrArg _ (s.charge_writeResultAndFlag ..), fun r hr => ?_⟩
    rw [List.mem_pair, not_or] at hr
    rw [← State.writeResultAndFlag_v]
    exact (s.reg_writeResultAndFlag_of_ne x _ _ hr.2).trans (if_neg hr.1)
  | _ => cases h

end Sys2Proof.Machine

namespace Sys2Proof.Proofs

open Sys2Proof.Machine

/-- Settles O28, by the state an instruction of the family answers. -/
theorem aluFrame : Obligations.AluFrame := by
  intro i written s t hi h
  obtain ⟨v, draws, cost, heq, hkeeps⟩ := exec_alu_eq hi s
  rw [heq] at h
  injection h with h
  subst h
  exact ⟨hkeeps, rfl, rfl, ⟨rfl, rfl⟩, ⟨rfl, rfl⟩, fun _ => rfl, ⟨fun _ _ => rfl, rfl⟩,
    ⟨rfl, rfl, rfl, rfl, rfl, rfl, rfl⟩, rfl⟩

end Sys2Proof.Proofs
end

section
/-! SUPPORT. The instructions of 42_index_memory.md as updates of I, memory or the registers: what I becomes, and the
transfers on both sides of their range check (R120 to R126). -/

namespace Sys2Proof.Machine

/-! ### The index register in plain arithmetic (R120 to R122) -/

theorem State.regWord_eq (s : State) (x : Reg) : s.regWord x = wordOf (s.reg x).toNat :=
  (BitVec.ofNat_toNat 16 (s.reg x)).symm

/-- FX1E (R121). -/
theorem State.index_add_regWord (s : State) (x : Reg) :
    s.i + s.regWord x = wordOf ((s.i.toNat + (s.reg x).toNat) % 65536) := by
  rw [← wordOf_add, State.regWord_toNat]

/-- FX29: no mask and no scale (R122). -/
theorem State.fontBase_add_regWord (s : State) (x : Reg) :
    BitVec.ofNat 16 Config.fontBase + s.regWord x = wordOf (0x0000 + (s.reg x).toNat) := by
  rw [State.regWord_eq, Nat.zero_add]
  exact BitVec.zero_add _

/-! ### A transfer whose range ends outside memory (R126) -/

/-- A transfer that reaches past memory is its fault and nothing else. -/
theorem State.checked_of_gt {s : State} {count : Nat} (cause : FaultCause) (e : State) (hcount : 1 ≤ count)
    (h : s.i.toNat + (count - 1) > 0xFFF) : s.checked cause count e = s.afterDataFault cause :=
  if_pos ((s.outOfRange_iff count).mpr ⟨hcount, h⟩)

/-! ### FX33 (R123) -/

theorem exec_bcd_of_le {s : State} {x : Reg} (h : s.i.toNat + 2 ≤ 0xFFF) :
    exec (.bcd x) s = .next ((s.storeBytes s.i.toNat (decimalDigits (s.reg x))).charge (.bcd x) .done) :=
  congrArg Host.Outcome.next (State.checked_of_le .store _ h)

theorem exec_bcd_of_gt {s : State} {x : Reg} (h : s.i.toNat + 2 > 0xFFF) :
    exec (.bcd x) s = .next (s.afterDataFault .store) :=
  congrArg Host.Outcome.next (State.checked_of_gt .store _ (by decide) h)

/-- A number that is no more than some byte fits a byte. -/
theorem byteOf_toNat_of_le {n : Nat} {b : Byte} (h : n ≤ b.toNat) : (byteOf n).toNat = n := by
  rw [BitVec.toNat_ofNat, Nat.mod_eq_of_lt (h.trans_lt b.isLt)]

/-- The digits stored at `a` are read back as numbers: hundreds, tens, units. -/
theorem State.byteAt_storeBytes_decimalDigits {s : State} (hwf : s.mem.wf) (a : Nat) (b : Byte) :
    ((s.storeBytes a (decimalDigits b)).byteAt a).toNat = b.toNat / 100 ∧
    ((s.storeBytes a (decimalDigits b)).byteAt (a + 1)).toNat = b.toNat / 10 % 10 ∧
    ((s.storeBytes a (decimalDigits b)).byteAt (a + 2)).toNat = b.toNat % 10 := by
  have hread := State.byteAt_storeBytes_inside s a (decimalDigits b) hwf
  have htens : b.toNat / 10 % 10 ≤ b.toNat := (Nat.mod_le _ 10).trans (Nat.div_le_self _ 10)
  exact ⟨(congrArg _ (hread 0 (by simp [decimalDigits]))).trans (byteOf_toNat_of_le (Nat.div_le_self _ 100)),
    (congrArg _ (hread 1 (by simp [decimalDigits]))).trans (byteOf_toNat_of_le htens),
    (congrArg _ (hread 2 (by simp [decimalDigits]))).trans (byteOf_toNat_of_le (Nat.mod_le _ 10))⟩

/-! ### FX55 and FX65 (R124, R125) -/

theorem exec_store_of_gt {s : State} {x : Reg} (h : s.i.toNat + x.val > 0xFFF) :
    exec (.store x) s = .next (s.afterDataFault .store) :=
  congrArg Host.Outcome.next (State.checked_of_gt .store _ (Nat.le_add_left 1 _) h)

theorem exec_load_of_le {s : State} {x : Reg} (h : s.i.toNat + x.val ≤ 0xFFF) :
    exec (.load x) s = .next ((s.setRegs (s.loadedRegs x)).charge (.load x) .done) :=
  congrArg Host.Outcome.next (State.checked_of_le .load _ h)

theorem exec_load_of_gt {s : State} {x : Reg} (h : s.i.toNat + x.val > 0xFFF) :
    exec (.load x) s = .next (s.afterDataFault .load) :=
  congrArg Host.Outcome.next (State.checked_of_gt .load _ (Nat.le_add_left 1 _) h)

/-- The registers up to VX are loaded, the others are as before. -/
theorem State.reg_setRegs_loadedRegs (s : State) (x k : Reg) :
    (s.setRegs (s.loadedRegs x)).reg k = if k ≤ x then s.byteAt (s.i.toNat + k.val) else s.reg k := by
  simp [State.reg, State.loadedRegs]

/-- The figure of both block transfers (46_step_and_tick.md R182). -/
theorem blockFigure_toNat (x : Reg) : (Cost.of (605 + 64 * x.val)).toNat = 605 + 64 * x.val :=
  Cost.toNat_of _ (by omega)

end Sys2Proof.Machine

namespace Sys2Proof.Proofs

open Sys2Proof.Machine

/-- Settles O30: the three values of I in plain arithmetic. -/
theorem indexRegisterResults : Obligations.IndexRegisterResults := by
  intro x nnn s
  rw [← addrOf_eq, ← State.index_add_regWord, ← State.fontBase_add_regWord]
  exact ⟨rfl, rfl, rfl, s.costOf_pos (.setIndex nnn) .done, s.figure_costOf (.setIndex nnn) .done,
    s.costOf_pos (.addIndex x) .done, s.figure_costOf (.addIndex x) .done,
    s.costOf_pos (.fontIndex x) .done, s.figure_costOf (.fontIndex x) .done⟩

/-- Settles O31, by the range check; the three digits are read back where they were stored. -/
theorem bcdStoresDigits : Obligations.BcdStoresDigits := by
  refine fun x s hwf => ⟨fun h => ?_, exec_bcd_of_gt, s.figure_costOf (.bcd x) .done⟩
  obtain ⟨hhundreds, htens, hunits⟩ := State.byteAt_storeBytes_decimalDigits hwf s.i.toNat (s.reg x)
  exact ⟨_, exec_bcd_of_le h, rfl, Memory.writeBytes_wf _ _ hwf, hhundreds, htens, hunits,
    fun _ hb => s.byteAt_storeBytes_outside _ _ hb⟩

/-- Settles O32, by the range check; each register is read back at its place in the block. -/
theorem storeWritesRegisters : Obligations.StoreWritesRegisters := by
  refine fun x s hwf => ⟨fun h => ?_, exec_store_of_gt⟩
  refine ⟨_, exec_store_of_le h, rfl, Memory.writeBytes_wf _ _ hwf,
    fun k hk => State.byteAt_storeBytes_regBlock hwf _ hk, fun b hb => ?_, ?_⟩
  · exact s.byteAt_storeBytes_outside _ _ (by rwa [State.regBlock_length])
  · rw [← blockFigure_toNat x]
    exact s.figure_costOf (.store x) .done

/-- Settles O33, by the range check. -/
theorem loadReadsRegisters : Obligations.LoadReadsRegisters := by
  refine fun x s => ⟨fun h => ?_, exec_load_of_gt⟩
  refine ⟨_, exec_load_of_le h, rfl, s.reg_setRegs_loadedRegs x, ?_⟩
  rw [← blockFigure_toNat x]
  exact s.figure_costOf (.load x) .done

/-- Settles O34, by O32 and O33: FX65 finds I where FX55 left it, and at I the stored registers. -/
theorem storeThenLoadRoundTrips : Obligations.StoreThenLoadRoundTrips := by
  intro x s v hwf h
  obtain ⟨t, ht, heq, -, hstored, -, -⟩ := (storeWritesRegisters x s hwf).1 h
  have hi : t.i = s.i := by rw [heq]
  obtain ⟨u, hu, hueq, hloaded, -⟩ := (loadReadsRegisters x { t with v := v }).1 (hi.symm ▸ h)
  refine ⟨t, u, ht, hu, fun k => (hloaded k).trans ?_, by rw [hueq, ← hi]⟩
  split
  · next hk =>
    rw [← hstored k hk, ← hi]
    rfl
  · rfl

end Sys2Proof.Proofs
end

section
/-! SUPPORT. What the instructions of 42_index_memory.md leave alone (R127), read off the table of writers of
10_state.md R10 and, for the transfers, off the range check. -/

namespace Sys2Proof.Machine

/-- The instructions of 42_index_memory.md on one register and one immediate. -/
def IsIndexMemory (x : Reg) (nnn : Addr12) (i : Instr) : Prop :=
  i = .setIndex nnn ∨ i = .addIndex x ∨ i = .fontIndex x ∨ i = .bcd x ∨ i = .store x ∨ i = .load x

/-! ### Which of them writes what -/

section
variable {x : Reg} {nnn : Addr12} {i : Instr}

theorem IsIndexMemory.eq_load (h : IsIndexMemory x nnn i) (hw : WritesRegisters i) : i = .load x := by
  obtain rfl | rfl | rfl | rfl | rfl | rfl := h <;> simp_all [WritesRegisters]

theorem IsIndexMemory.eq_bcd_or_store (h : IsIndexMemory x nnn i) (hw : WritesMemory i) :
    i = .bcd x ∨ i = .store x := by
  obtain rfl | rfl | rfl | rfl | rfl | rfl := h <;> simp_all [WritesMemory]

theorem IsIndexMemory.eq_transfer (h : IsIndexMemory x nnn i) (hw : ChecksRange i) :
    i = .bcd x ∨ i = .store x ∨ i = .load x := by
  obtain rfl | rfl | rfl | rfl | rfl | rfl := h <;> simp_all [ChecksRange]

theorem IsIndexMemory.not_draw (h : IsIndexMemory x nnn i) : ¬∃ x y n, i = .draw x y n := by
  obtain rfl | rfl | rfl | rfl | rfl | rfl := h <;> simp

theorem not_writesIndex_of_transfer (h : i = .bcd x ∨ i = .store x ∨ i = .load x) : ¬WritesIndex i := by
  obtain rfl | rfl | rfl := h <;> simp [WritesIndex]

/-- The family changes only memory, the registers, I, the latch and the cost. -/
theorem IsIndexMemory.exec_eq (h : IsIndexMemory x nnn i) (s : State) : ∃ mem v index halt cost,
    exec i s = .next { s with mem := mem, v := v, i := index, halt := halt, cost := cost } := by
  obtain rfl | rfl | rfl | hchecked := h
  iterate 3 exact ⟨_, _, _, _, _, rfl⟩
  obtain rfl | rfl | rfl := hchecked
  all_goals
    simp only [exec, execBcd, execStore, execLoad]
    obtain ⟨-, he⟩ | ⟨-, he⟩ := s.checked_cases _ _ _
    all_goals exact ⟨_, _, _, _, _, congrArg _ he⟩

end

/-! ### The transfers, faulting or not (R126) -/

/-- What holds of the effect and of the fault holds of the transfer. -/
theorem State.checked_of_both {P : State → Prop} {s e : State} {cause : FaultCause} (count : Nat)
    (hfault : P (s.dataFault cause)) (heffect : P e) : P (s.checked cause count e) := by
  rcases s.checked_cases cause count e with ⟨-, h⟩ | ⟨-, h⟩
  · rwa [h]
  · rwa [h]

theorem exec_bcd_keepsMemoryOutside {s t : State} {x : Reg} (h : exec (.bcd x) s = .next t) :
    KeepsMemoryOutside s.i.toNat 3 s t := by
  injection h with h
  rw [← h]
  exact State.checked_of_both 3 (fun _ _ => rfl) fun _ hb => s.byteAt_storeBytes_outside _ _ hb

theorem exec_store_keepsMemoryOutside {s t : State} {x : Reg} (h : exec (.store x) s = .next t) :
    KeepsMemoryOutside s.i.toNat (x.val + 1) s t := by
  injection h with h
  rw [← h]
  refine State.checked_of_both (x.val + 1) (fun _ _ => rfl) fun _ hb => ?_
  exact s.byteAt_storeBytes_outside _ _ (by rwa [State.regBlock_length])

/-- FX65 writes only V0..VX. -/
theorem exec_load_keepsRegs {s t : State} {x : Reg} (h : exec (.load x) s = .next t) :
    KeepsRegs ((List.finRange 16).filter (· ≤ x)) s t := by
  injection h with h
  rw [← h]
  refine State.checked_of_both (x.val + 1) (fun _ _ => rfl) fun r hr => ?_
  have hgt : ¬r ≤ x := by simpa using hr
  exact (s.reg_setRegs_loadedRegs x r).trans (if_neg hgt)

/-! ### What they leave alone, by the table of writers -/

section
variable {x : Reg} {nnn : Addr12} {i : Instr} {s t : State}

/-- Only FX65 writes registers. -/
theorem IsIndexMemory.keepsRegs (hi : IsIndexMemory x nnn i) (he : s.Effect i t) (hload : i ≠ .load x) :
    KeepsRegs [] s t := by
  have hv : t.v = s.v := by
    by_contra hne
    rcases he.registers_writer hne with hw | ⟨hdraw, -⟩
    · exact hload (hi.eq_load hw)
    · exact hi.not_draw hdraw
  exact fun r _ => State.reg_of_v_eq hv r

/-- Only FX33 and FX55 write memory. -/
theorem IsIndexMemory.keepsMemory (hi : IsIndexMemory x nnn i) (he : s.Effect i t) (hbcd : i ≠ .bcd x)
    (hstore : i ≠ .store x) : KeepsMemory s t := by
  have hmem : t.mem = s.mem :=
    not_imp_comm.mp he.mem_writer fun hw => (hi.eq_bcd_or_store hw).elim hbcd hstore
  exact fun a => congrArg (Memory.read · a) hmem

/-- Only the transfers can fault. -/
theorem IsIndexMemory.halt_eq (hi : IsIndexMemory x nnn i) (he : s.Effect i t) (hbcd : i ≠ .bcd x)
    (hstore : i ≠ .store x) (hload : i ≠ .load x) : t.halt = s.halt :=
  not_imp_comm.mp he.halt_writer fun hw => (hi.eq_transfer hw).elim hbcd (·.elim hstore hload)

/-- No transfer writes I. -/
theorem State.Effect.index_eq_of_transfer (he : s.Effect i t) (h : i = .bcd x ∨ i = .store x ∨ i = .load x) :
    t.i = s.i :=
  not_imp_comm.mp he.index_writer (not_writesIndex_of_transfer h)

/-- An instruction that moves the latch has done nothing but fault (60_exceptions.md R201). -/
theorem State.Effect.keeps_of_fault (he : s.Effect i t) (hne : t.halt ≠ s.halt) :
    KeepsMemory s t ∧ KeepsRegs [] s t := by
  cases he with
  | fault => exact ⟨fun _ => rfl, fun _ _ => rfl⟩
  | _ => exact absurd (by simp) hne

end

end Sys2Proof.Machine

namespace Sys2Proof.Proofs

open Sys2Proof.Machine

/-- Settles O35: the table of writers says which of them writes registers, I, memory or the latch; the range check bounds
what a transfer writes. -/
theorem indexMemoryFrame : Obligations.IndexMemoryFrame := by
  intro x nnn i s t h hi
  replace hi : IsIndexMemory x nnn i := hi
  have he : s.Effect i t := exec_effect h
  have hload : i = .load x → KeepsRegs ((List.finRange 16).filter (· ≤ x)) s t := fun e =>
    exec_load_keepsRegs (e ▸ h)
  have hbcd : i = .bcd x → KeepsMemoryOutside s.i.toNat 3 s t := fun e => exec_bcd_keepsMemoryOutside (e ▸ h)
  have hstore : i = .store x → KeepsMemoryOutside s.i.toNat (x.val + 1) s t := fun e =>
    exec_store_keepsMemoryOutside (e ▸ h)
  obtain ⟨mem, v, index, halt, cost, heq⟩ := hi.exec_eq s
  rw [heq] at h
  injection h with h
  subst h
  exact ⟨rfl, ⟨rfl, rfl⟩, ⟨rfl, rfl⟩, ⟨fun _ _ => rfl, rfl⟩, he.keepsSurroundings, rfl, hload, hi.keepsRegs he,
    he.index_eq_of_transfer, hi.halt_eq he, hbcd, hstore, hi.keepsMemory he, he.keeps_of_fault⟩

end Sys2Proof.Proofs
end

section
/-! SUPPORT. The blit engine as its closed form (43_display_blit.md R147): pixels, rows and blits each flip the cells under
a mask and raise the collision bit over the set ones, and such effects with disjoint masks compose. -/

namespace Sys2Proof.Machine

/-! ### Flipping the cells under a mask -/

/-- The cells under the mask are flipped, and the collision bit is raised if one of them was set. -/
structure FlipsUnder (mask : Nat → Nat → Bool) (before after : Grid × Bool) : Prop where
  cell : ∀ x y, x < 64 → y < 32 → after.1.cell x y = (before.1.cell x y ^^ mask x y)
  collision : after.2 = true ↔
    before.2 = true ∨ ∃ x y, x < 64 ∧ y < 32 ∧ before.1.cell x y = true ∧ mask x y = true

section
variable {mask mask₁ mask₂ : Nat → Nat → Bool} {a b c : Grid × Bool}

theorem FlipsUnder.of_unset (h : ∀ x y, x < 64 → y < 32 → mask x y = false) (a : Grid × Bool) :
    FlipsUnder mask a a where
  cell x y hx hy := by rw [h x y hx hy, Bool.xor_false]
  collision := by
    refine (or_iff_left ?_).symm
    rintro ⟨x, y, hx, hy, -, hm⟩
    simp [h x y hx hy] at hm

/-- One after the other under disjoint masks is both at once: the first leaves the cells the second looks at. -/
theorem FlipsUnder.trans (h₁ : FlipsUnder mask₁ a b) (h₂ : FlipsUnder mask₂ b c)
    (hdisjoint : ∀ x y, mask₁ x y = true → mask₂ x y = false) (hmask : ∀ x y, mask x y = (mask₁ x y || mask₂ x y)) :
    FlipsUnder mask a c where
  cell x y hx hy := by
    rw [h₂.cell x y hx hy, h₁.cell x y hx hy, hmask]
    cases h : mask₁ x y with
    | false => simp
    | true => simp [hdisjoint x y h]
  collision := by
    have hsame : ∀ x y, x < 64 → y < 32 → mask₂ x y = true → b.1.cell x y = a.1.cell x y := by
      intro x y hx hy h
      have hm : mask₁ x y = false := Bool.eq_false_iff.mpr fun hm => by simp [hdisjoint x y hm] at h
      rw [h₁.cell x y hx hy, hm, Bool.xor_false]
    rw [h₂.collision, h₁.collision, or_assoc]
    refine or_congr_right ⟨?_, ?_⟩
    · rintro (⟨x, y, hx, hy, hcell, hm⟩ | ⟨x, y, hx, hy, hcell, hm⟩)
      · exact ⟨x, y, hx, hy, hcell, by simp [hmask, hm]⟩
      · exact ⟨x, y, hx, hy, hsame x y hx hy hm ▸ hcell, by simp [hmask, hm]⟩
    · rintro ⟨x, y, hx, hy, hcell, hm⟩
      rw [hmask, Bool.or_eq_true] at hm
      refine hm.imp (fun hm => ⟨x, y, hx, hy, hcell, hm⟩) fun hm => ⟨x, y, hx, hy, ?_, hm⟩
      rwa [hsame x y hx hy hm]

end

/-! ### Sprite bits, row by row and pixel by pixel -/

theorem spriteBit_of_outside {x0 y0 n : Nat} {row : Nat → Byte} {x y : Nat}
    (h : ¬(y0 ≤ y ∧ y < y0 + n ∧ x0 ≤ x ∧ x < x0 + 8)) : spriteBit x0 y0 n row x y = false := by
  rw [spriteBit, decide_eq_false h, Bool.false_and]

/-- One sprite row over a cell, but only its pixels at the offsets from `k` to below `k + m`. -/
def rowBit (x0 y0 : Nat) (row : Byte) (k m x y : Nat) : Bool :=
  decide (y = y0 ∧ x0 + k ≤ x ∧ x < x0 + k + m) && row.getLsbD (7 - (x - x0))

section
variable {x0 y0 k m x y : Nat} {row : Byte}

theorem rowBit_of_outside (h : ¬(y = y0 ∧ x0 + k ≤ x ∧ x < x0 + k + m)) : rowBit x0 y0 row k m x y = false := by
  rw [rowBit, decide_eq_false h, Bool.false_and]

theorem inside_of_rowBit (h : rowBit x0 y0 row k m x y = true) : y = y0 ∧ x0 + k ≤ x ∧ x < x0 + k + m :=
  of_decide_eq_true (Bool.and_eq_true_iff.mp h).1

theorem rowBit_one : rowBit x0 y0 row k 1 x y = (decide (x = x0 + k ∧ y = y0) && row.getLsbD (7 - k)) := by
  by_cases h : x = x0 + k ∧ y = y0
  · obtain ⟨rfl, rfl⟩ := h
    simp [rowBit]
  · rw [rowBit_of_outside (by omega), decide_eq_false h, Bool.false_and]

/-- The leftmost pixel and the others. -/
theorem rowBit_succ :
    rowBit x0 y0 row k (m + 1) x y = (rowBit x0 y0 row k 1 x y || rowBit x0 y0 row (k + 1) m x y) := by
  unfold rowBit
  rw [← Bool.and_or_distrib_right, ← Bool.decide_or]
  congr 2
  apply propext
  omega

/-- The top row of a sprite and the sprite of the others. -/
theorem spriteBit_cons (rows : List Byte) :
    spriteBit x0 y0 (row :: rows).length (fun r => (row :: rows).getD r 0) x y =
      (rowBit x0 y0 row 0 8 x y || spriteBit x0 (y0 + 1) rows.length (fun r => rows.getD r 0) x y) := by
  rcases lt_trichotomy y y0 with h | rfl | h
  · rw [spriteBit_of_outside (by omega), rowBit_of_outside (by omega), spriteBit_of_outside (by omega)]
    rfl
  · rw [spriteBit_of_outside (y0 := y + 1) (by omega)]
    simp [spriteBit, rowBit]
  · rw [rowBit_of_outside (by omega), Bool.false_or, spriteBit, spriteBit,
      show y - y0 = y - (y0 + 1) + 1 by omega, List.getD_cons_succ, List.length_cons]
    congr 2
    apply propext
    omega

end

/-! ### The loops of the engine -/

/-- One pixel of a row (R145, R146). -/
theorem pixel_flipsUnder {x0 y0 k : Nat} (row : Byte) (hx : x0 + k < 64) (hy : y0 < 32) (gc : Grid × Bool) :
    FlipsUnder (rowBit x0 y0 row k 1) gc
      (if row.getLsbD (7 - k) then blitPixel (x0 + k) y0 gc.1 gc.2 else gc) := by
  split
  · next hbit =>
    have hmask : ∀ x y, rowBit x0 y0 row k 1 x y = decide (x = x0 + k ∧ y = y0) := fun x y => by
      rw [rowBit_one, hbit, Bool.and_true]
    refine ⟨fun x y _ _ => ?_, ?_⟩
    · rw [hmask]
      exact Grid.cell_flip gc.1 hx hy x y
    · simp only [blitPixel, hmask, Bool.or_eq_true, decide_eq_true_eq]
      grind
  · next hbit => exact .of_unset (fun x y _ _ => by simp [rowBit_one, hbit]) gc

/-- A row of the loop, clipped at the right edge (R144). -/
theorem blitColumns_flipsUnder {x0 y0 : Nat} (row : Byte) (hy : y0 < 32) (k m : Nat) (gc : Grid × Bool) :
    FlipsUnder (rowBit x0 y0 row k m) gc (blitColumns x0 y0 row (List.range' k m) gc) := by
  induction m generalizing k gc with
  | zero => exact .of_unset (fun _ _ _ _ => rowBit_of_outside (by omega)) gc
  | succ m ih =>
    rw [List.range'_succ, blitColumns]
    split
    · exact .of_unset (fun _ _ _ _ => rowBit_of_outside (by omega)) gc
    · next hx =>
      refine (pixel_flipsUnder row (by omega) hy gc).trans (ih (k + 1) _) (fun x y h => ?_) fun _ _ => rowBit_succ
      have hpixel := inside_of_rowBit h
      exact rowBit_of_outside (by omega)

/-- The rows of the loop, clipped at the bottom edge (R143). -/
theorem blitRows_flipsUnder (x0 y0 : Nat) (rows : List Byte) (gc : Grid × Bool) :
    FlipsUnder (spriteBit x0 y0 rows.length fun r => rows.getD r 0) gc (blitRows x0 y0 rows gc) := by
  induction rows generalizing y0 gc with
  | nil => exact .of_unset (fun _ _ _ _ => spriteBit_of_outside (by rw [List.length_nil]; omega)) gc
  | cons row rows ih =>
    rw [blitRows]
    split
    · exact .of_unset (fun _ _ _ _ => spriteBit_of_outside (by omega)) gc
    · next hy =>
      rw [List.range_eq_range']
      refine (blitColumns_flipsUnder row (by omega) 0 8 gc).trans (ih (y0 + 1) _) (fun x y h => ?_) fun _ _ =>
        spriteBit_cons rows
      have hrow := inside_of_rowBit h
      exact spriteBit_of_outside (by omega)

/-! ### Blits -/

theorem blit_cell (x0 y0 : Nat) (rows : List Byte) (g : Grid) {x y : Nat} (hx : x < 64) (hy : y < 32) :
    (blit x0 y0 rows g).1.cell x y =
      (g.cell x y ^^ spriteBit x0 y0 rows.length (fun r => rows.getD r 0) x y) :=
  (blitRows_flipsUnder x0 y0 rows (g, false)).cell x y hx hy

theorem blit_collision_iff (x0 y0 : Nat) (rows : List Byte) (g : Grid) :
    (blit x0 y0 rows g).2 = true ↔ ∃ x y, x < 64 ∧ y < 32 ∧ g.cell x y = true ∧
      spriteBit x0 y0 rows.length (fun r => rows.getD r 0) x y = true :=
  (blitRows_flipsUnder x0 y0 rows (g, false)).collision.trans (or_iff_right Bool.false_ne_true)

/-- A grid is its cells. -/
theorem Grid.ext_cell {g g' : Grid} (h : ∀ x y, x < 64 → y < 32 → g.cell x y = g'.cell x y) : g = g' := by
  refine Vector.ext fun y hy => Vector.ext fun x hx => ?_
  simpa [Grid.cell, hx, hy] using h x y hx hy

theorem blit_comm (x0 y0 x1 y1 : Nat) (rows rows' : List Byte) (g : Grid) :
    (blit x1 y1 rows' (blit x0 y0 rows g).1).1 = (blit x0 y0 rows (blit x1 y1 rows' g).1).1 :=
  Grid.ext_cell fun x y hx hy => by
    rw [blit_cell _ _ _ _ hx hy, blit_cell _ _ _ _ hx hy, blit_cell _ _ _ _ hx hy, blit_cell _ _ _ _ hx hy,
      Bool.xor_right_comm]

/-- A blit undoes itself (R148). -/
theorem blit_blit (x0 y0 : Nat) (rows : List Byte) (g : Grid) :
    (blit x0 y0 rows (blit x0 y0 rows g).1).1 = g :=
  Grid.ext_cell fun x y hx hy => by
    rw [blit_cell _ _ _ _ hx hy, blit_cell _ _ _ _ hx hy, Bool.xor_assoc, Bool.xor_self, Bool.xor_false]

end Sys2Proof.Machine

namespace Sys2Proof.Proofs

open Sys2Proof.Machine

/-- Settles O38, by the closed form of the loop over the rows, whose collision bit starts clear. -/
theorem blitIsItsClosedForm : Obligations.BlitIsItsClosedForm := fun x0 y0 rows g =>
  ⟨fun _ _ hx hy => blit_cell x0 y0 rows g hx hy, blit_collision_iff x0 y0 rows g⟩

/-- Settles O41, cell by cell: the order of two exclusive-ors does not matter. -/
theorem blitsCommute : Obligations.BlitsCommute := blit_comm

end Sys2Proof.Proofs
end

section
/-! SUPPORT. 00E0 and DXYN as instructions (43_display_blit.md R149 to R152): DXYN on both sides of its range check, and
what the two change. -/

namespace Sys2Proof.Machine

section
variable {s t : State} {x y : Reg} {n : Nibble}

/-! ### DXYN on both sides of its range check (R150) -/

/-- DXYN faults and does nothing else, or draws. -/
theorem exec_draw_cases (h : exec (.draw x y n) s = .next t) :
    t = s.dataFault .load ∨ t = (s.drawSprite x y n).charge (.draw x y n) .done := by
  injection h with h
  subst h
  exact (s.checked_cases .load n.val _).imp And.right And.right

/-- A sprite of no rows is never out of range. -/
theorem exec_draw_of_inRange (h : n.val = 0 ∨ s.i.toNat + n.val - 1 ≤ 0xFFF) :
    exec (.draw x y n) s = .next ((s.drawSprite x y n).charge (.draw x y n) .done) := by
  refine congrArg Host.Outcome.next (if_neg ?_)
  rw [State.outOfRange_iff]
  omega

theorem exec_draw_of_outOfRange (hn : n.val ≥ 1) (h : s.i.toNat + n.val - 1 > 0xFFF) :
    exec (.draw x y n) s = .next (s.afterDataFault .load) :=
  congrArg Host.Outcome.next (State.checked_of_gt .load _ hn (by omega))

/-! ### What a drawing draws -/

/-- The bytes read from memory are the rows of the sprite. -/
theorem State.spriteBit_bytesAt (s : State) (x y : Reg) (n : Nibble) (cx cy : Nat) :
    spriteBit (s.spriteColumn x) (s.spriteRow y) (s.bytesAt s.i.toNat n.val).length
      (fun r => (s.bytesAt s.i.toNat n.val).getD r 0) cx cy = s.drawBit x y n cx cy := by
  rw [State.bytesAt_length]
  by_cases h : s.spriteRow y ≤ cy ∧ cy < s.spriteRow y + n.val ∧ s.spriteColumn x ≤ cx ∧ cx < s.spriteColumn x + 8
  · have hr : cy - s.spriteRow y < (s.bytesAt s.i.toNat n.val).length := by
      rw [State.bytesAt_length]
      omega
    rw [spriteBit, List.getD_eq_getElem _ _ hr, State.bytesAt_getElem]
    rfl
  · rw [State.drawBit, spriteBit_of_outside h]
    exact (spriteBit_of_outside h).symm

theorem State.drawSprite_cell (s : State) (x y : Reg) (n : Nibble) {cx cy : Nat} (hx : cx < 64) (hy : cy < 32) :
    (s.drawSprite x y n).grid.cell cx cy = (s.grid.cell cx cy ^^ s.drawBit x y n cx cy) := by
  rw [State.drawSprite_grid, blit_cell _ _ _ _ hx hy, State.spriteBit_bytesAt]

theorem flagByte_eq_one_iff (b : Bool) : flagByte b = 1 ↔ b = true := by
  cases b <;> decide

/-- Under COLLISION_TO_VF a drawing leaves the collision bit in VF (R146). -/
theorem State.drawSprite_vf (h : s.config.collisionToVf = true) (x y : Reg) (n : Nibble) :
    (s.drawSprite x y n).reg 15 =
      flagByte (blit (s.spriteColumn x) (s.spriteRow y) (s.bytesAt s.i.toNat n.val) s.grid).2 := by
  rw [State.drawSprite_eq, if_pos h]
  exact (vector_get_set s.v vf 15 _).trans (if_pos rfl)

/-- VF then says whether the drawing erased a cell. -/
theorem State.drawSprite_vf_eq_one_iff (h : s.config.collisionToVf = true) (x y : Reg) (n : Nibble) :
    (s.drawSprite x y n).reg 15 = 1 ↔
      ∃ cx cy, cx < 64 ∧ cy < 32 ∧ s.grid.cell cx cy = true ∧ s.drawBit x y n cx cy = true := by
  simp only [State.drawSprite_vf h, flagByte_eq_one_iff, blit_collision_iff, State.spriteBit_bytesAt]

/-- What is drawn is read from the registers, I and memory. -/
theorem State.drawSprite_grid_congr (hv : t.v = s.v) (hi : t.i = s.i) (hmem : t.mem = s.mem) (x y : Reg) (n : Nibble) :
    (t.drawSprite x y n).grid =
      (blit (s.spriteColumn x) (s.spriteRow y) (s.bytesAt s.i.toNat n.val) t.grid).1 := by
  rw [State.drawSprite_grid, hi]
  simp only [State.spriteColumn, State.spriteRow, State.reg, State.bytesAt, State.byteAt, hv, hmem]

/-! ### What a drawing changes (R152) -/

theorem State.charge_drawSprite (s : State) (x y : Reg) (n : Nibble) :
    (s.drawSprite x y n).charge (.draw x y n) .done =
      { s with grid := (s.drawSprite x y n).grid, dirty := true, v := (s.drawSprite x y n).v,
               cost := some (s.costOf (.draw x y n) .done) } := by
  rw [State.charge, State.drawSprite_costOf, State.drawSprite_eq]
  rfl

theorem State.drawSprite_keepsRegs (s : State) (x y : Reg) (n : Nibble) :
    KeepsRegs (if s.config.collisionToVf = true then [15] else []) s (s.drawSprite x y n) := by
  intro r hr
  split at hr
  · exact s.reg_drawSprite_of_ne x y n (List.mem_singleton.not.mp hr)
  · next hconf => exact State.reg_of_v_eq (State.drawSprite_v_of_not_collisionToVf hconf x y n) r

end

end Sys2Proof.Machine

namespace Sys2Proof.Proofs

open Sys2Proof.Machine

/-- Settles O39, by the range check and the closed form of the blit. -/
theorem drawXorsTheSprite : Obligations.DrawXorsTheSprite := by
  refine fun x y n s => ⟨fun hr => ⟨_, exec_draw_of_inRange hr, s.charge_drawSprite x y n,
    fun cx cy => s.drawSprite_cell x y n, fun hconf => ?_, fun hconf => ⟨?_, ?_⟩⟩,
    exec_draw_of_outOfRange, s.figure_costOf (.draw x y n) .done⟩
  · exact State.drawSprite_v_of_not_collisionToVf (by simp [hconf]) x y n
  · have hkeeps := s.drawSprite_keepsRegs x y n
    rwa [if_pos hconf] at hkeeps
  · exact ⟨State.drawSprite_vf hconf x y n ▸ flagByte_eq_zero_or_one _, State.drawSprite_vf_eq_one_iff hconf x y n⟩

/-- Settles O40: the first draw leaves what the second reads, and a blit undoes itself. -/
theorem drawTwiceRestoresGrid : Obligations.DrawTwiceRestoresGrid := by
  intro x y n s hconf hr
  have hi : ((s.drawSprite x y n).charge (.draw x y n) .done).i = s.i := by simp
  have hv : ((s.drawSprite x y n).charge (.draw x y n) .done).v = s.v :=
    State.drawSprite_v_of_not_collisionToVf (by simp [hconf]) x y n
  refine ⟨_, _, exec_draw_of_inRange hr, exec_draw_of_inRange (hi.symm ▸ hr), ?_, by simp⟩
  rw [State.charge_grid, State.drawSprite_grid_congr hv hi (by simp), State.charge_grid, State.drawSprite_grid, blit_blit]

/-- Settles O42, by the range check of DXYN and the effect of each instruction's class. -/
theorem dirtyIsSetByDrawingOnly : Obligations.DirtyIsSetByDrawingOnly := by
  intro i s t h
  have he : s.Effect i t := exec_effect h
  refine ⟨?_, ?_, he.dirty_writer, he.dirty_of_dirty⟩
  · rintro rfl
    injection h with h
    rw [← h]
    rfl
  · rintro ⟨x, y, n, rfl⟩ - hcost
    obtain rfl | rfl := exec_draw_cases h
    · exact absurd (s.dataFault_cost .load) hcost
    · exact s.drawSprite_dirty x y n

/-- Settles O43, by the state 00E0 and DXYN answer. -/
theorem displayFrame : Obligations.DisplayFrame := by
  intro i s t hi h
  have hsurroundings : KeepsSurroundings s t := (exec_effect h).keepsSurroundings
  obtain rfl | ⟨x, y, n, rfl⟩ := hi
  · injection h with h
    subst h
    exact ⟨fun _ _ => rfl, rfl, rfl, fun _ => rfl, ⟨rfl, rfl⟩, ⟨rfl, rfl⟩, hsurroundings, rfl, fun _ =>
      ⟨fun _ _ => rfl, rfl⟩⟩
  · obtain rfl | rfl := exec_draw_cases h
    · exact ⟨fun _ _ => rfl, rfl, rfl, fun _ => rfl, ⟨rfl, rfl⟩, ⟨rfl, rfl⟩, hsurroundings, rfl, nofun⟩
    · have hkeeps := s.drawSprite_keepsRegs x y n
      rw [State.charge_drawSprite] at hsurroundings ⊢
      exact ⟨hkeeps, rfl, rfl, fun _ => rfl, ⟨rfl, rfl⟩, ⟨rfl, rfl⟩, hsurroundings, rfl, nofun⟩

/-- Settles O37, by the cells of a cleared grid. -/
theorem clearUnsetsEveryCell : Obligations.ClearUnsetsEveryCell := fun s =>
  ⟨_, rfl, rfl, Grid.cell_clear, s.costOf_pos .cls .done, s.figure_costOf .cls .done⟩

end Sys2Proof.Proofs
end

section
/-! SUPPORT. The instructions of 44_timers_keys.md: the key they poll, the key that was released, and what each of them
writes (R160 to R167). -/

namespace Sys2Proof.Machine

/-! ### The key skips (R163, R164) -/

/-- A key is down exactly when the byte names one of the sixteen and its bit of the port is set. -/
theorem State.keyDown_iff (s : State) (k : Byte) :
    s.keyDown k = true ↔ k.toNat ≤ 15 ∧ s.keysDown.getLsbD k.toNat = true := by
  unfold State.keyDown
  split <;> simp_all

/-- A skip on the opposite of a condition. -/
theorem State.skipIf_not (s : State) (i : Instr) (c : Bool) :
    s.skipIf i (!c) = { s with
      pc := if c then s.pc else s.pc + 2,
      cost := some (s.costOf i (if c then .notTaken else .taken)) } := by
  cases c <;> rfl

/-! ### The key wait (R165) -/

theorem word_sub_two (w : Word) : w - 2 = wordOf ((w.toNat + 65536 - 2) % 65536) := by bv_omega

theorem State.firstReleased_eq_some {s : State} (k : Fin 16) (hk : s.keysReleased.getLsbD k.val = true)
    (hlow : ∀ j : Fin 16, j < k → s.keysReleased.getLsbD j.val = false) : s.firstReleased = some k.val := by
  refine List.find?_range_eq_some.mpr ⟨hk, List.mem_range.mpr k.isLt, fun j hj => ?_⟩
  have := hlow ⟨j, hj.trans k.isLt⟩ hj
  simp [State.keyReleased, this]

theorem State.firstReleased_eq_none {s : State} (h : ∀ k : Fin 16, s.keysReleased.getLsbD k.val = false) :
    s.firstReleased = none :=
  List.find?_eq_none.mpr fun k hk => Bool.not_eq_true _ ▸ h ⟨k, List.mem_range.mp hk⟩

theorem exec_waitKey_of_some {s : State} {k : Nat} (x : Reg) (h : s.firstReleased = some k) :
    exec (.waitKey x) s = .next { s with v := s.v.set x (byteOf k), cost := some (s.costOf (.waitKey x) .done) } := by
  simp only [exec, execWaitKey, h]
  rfl

theorem exec_waitKey_of_none {s : State} (x : Reg) (h : s.firstReleased = none) :
    exec (.waitKey x) s = .next { s with pc := s.pc - 2, cost := some 0 } := by
  simp only [exec, execWaitKey, h]
  rfl

/-! ### What they write (R167) -/

/-- The instructions of 44_timers_keys.md on one register. -/
def IsTimerKey (x : Reg) (i : Instr) : Prop :=
  i = .readDelay x ∨ i = .waitKey x ∨ i = .setDelay x ∨ i = .setSound x ∨ i = .skipKey x ∨ i = .skipNoKey x

/-- Each of them writes one of VX, DT, ST and pc, besides the cost. -/
theorem IsTimerKey.exec_cases {x : Reg} {i : Instr} {s t : State} (hi : IsTimerKey x i) (h : exec i s = .next t) :
    (∃ b c, (i = .readDelay x ∨ i = .waitKey x) ∧ t = { s with v := s.v.set x b, cost := c }) ∨
    (∃ b c, i = .setDelay x ∧ t = { s with dt := b, cost := c }) ∨
    (∃ b c, i = .setSound x ∧ t = { s with st := b, cost := c }) ∨
    (∃ w c, (i = .waitKey x ∨ i = .skipKey x ∨ i = .skipNoKey x) ∧ t = { s with pc := w, cost := c }) := by
  obtain rfl | rfl | rfl | rfl | hskip := hi
  · cases h
    exact .inl ⟨_, _, .inl rfl, rfl⟩
  · cases hkey : s.firstReleased with
    | some k =>
      cases (exec_waitKey_of_some x hkey).symm.trans h
      exact .inl ⟨_, _, .inr rfl, rfl⟩
    | none =>
      cases (exec_waitKey_of_none x hkey).symm.trans h
      exact .inr (.inr (.inr ⟨_, _, .inl rfl, rfl⟩))
  · cases h
    exact .inr (.inl ⟨_, _, rfl, rfl⟩)
  · cases h
    exact .inr (.inr (.inl ⟨_, _, rfl, rfl⟩))
  · refine .inr (.inr (.inr ?_))
    obtain rfl | rfl := hskip <;> cases h
    · exact ⟨_, _, .inr (.inl rfl), s.skipIf_eq _ _⟩
    · exact ⟨_, _, .inr (.inr rfl), s.skipIf_eq _ _⟩

end Sys2Proof.Machine

namespace Sys2Proof.Proofs

open Sys2Proof.Machine

/-- Settles O47, by which one of VX, DT, ST and pc the instruction writes. -/
theorem timersKeysFrame : Obligations.TimersKeysFrame := by
  intro x i s t h hi
  have hsurroundings : KeepsSurroundings s t := (exec_effect h).keepsSurroundings
  obtain ⟨b, c, hreg, rfl⟩ | ⟨b, c, hdelay, rfl⟩ | ⟨b, c, hsound, rfl⟩ | ⟨w, c, hpc, rfl⟩ :=
    IsTimerKey.exec_cases hi h
  all_goals refine ⟨rfl, fun _ => rfl, ⟨rfl, rfl⟩, ⟨fun _ _ => rfl, rfl⟩, hsurroundings, rfl, rfl, ?_⟩
  · have hkeeps : KeepsRegs [x] s { s with v := s.v.set x b, cost := c } := fun r hr =>
      (s.reg_setReg x r b).trans (if_neg fun e => hr (List.mem_singleton.mpr e.symm))
    exact ⟨fun _ => hkeeps, fun hread hwait => (hreg.elim hread hwait).elim, fun _ => rfl, fun _ => rfl,
      fun _ _ _ => rfl⟩
  · exact ⟨fun _ _ _ => rfl, fun _ _ _ _ => rfl, fun hne => absurd hdelay hne, fun _ => rfl, fun _ _ _ => rfl⟩
  · exact ⟨fun _ _ _ => rfl, fun _ _ _ _ => rfl, fun _ => rfl, fun hne => absurd hsound hne, fun _ _ _ => rfl⟩
  · exact ⟨fun _ _ _ => rfl, fun _ _ _ _ => rfl, fun _ => rfl, fun _ => rfl, fun hwait hkey hnoKey =>
      (hpc.elim hwait (·.elim hkey hnoKey)).elim⟩

/-- Settles O44: each move is one update of the state. -/
theorem timerMoves : Obligations.TimerMoves := fun x s =>
  ⟨rfl, rfl, rfl, s.costOf_pos (.readDelay x) .done, s.figure_costOf (.readDelay x) .done,
    s.costOf_pos (.setDelay x) .done, s.figure_costOf (.setDelay x) .done,
    s.costOf_pos (.setSound x) .done, s.figure_costOf (.setSound x) .done⟩

/-- Settles O45: both skips poll the one key. -/
theorem keySkipsPollTheKey : Obligations.KeySkipsPollTheKey := by
  intro x s down hdown
  have hkey : s.keyDown (s.reg x) = down := Bool.eq_iff_iff.mpr ((s.keyDown_iff _).trans hdown.symm)
  rw [← word_add_two, ← hkey]
  exact ⟨congrArg _ (s.skipIf_eq _ _), congrArg _ (s.skipIf_not _ _),
    s.figure_costOf (.skipKey x) .taken, s.figure_costOf (.skipKey x) .notTaken,
    s.figure_costOf (.skipNoKey x) .taken, s.figure_costOf (.skipNoKey x) .notTaken⟩

/-- Settles O46, by the first released key in ascending order. -/
theorem waitKeyTakesLowestRelease : Obligations.WaitKeyTakesLowestRelease := by
  intro x s
  rw [← word_sub_two]
  exact ⟨fun k hk hlow => exec_waitKey_of_some x (State.firstReleased_eq_some k hk hlow),
    fun hnone => exec_waitKey_of_none x (State.firstReleased_eq_none hnone), s.figure_costOf (.waitKey x) .done⟩

end Sys2Proof.Proofs
end

section
/-! SUPPORT. One step in full: the decoded instruction between the start of a tick and the accounting
(46_step_and_tick.md R180, R184, R185). -/

namespace Sys2Proof.Machine

/-- What the byte decoder reads at pc is what the step decodes (20_memory.md R46). -/
theorem State.decodeBytes_at_pc (s : State) :
    decodeBytes [s.byteAt s.pc.toNat, s.byteAt (s.pc.toNat + 1)] = .ok (decode s.fetchWord, []) := rfl

end Sys2Proof.Machine

namespace Sys2Proof.Proofs

open Sys2Proof.Machine

/-- Settles O8: the step fetches the word that the byte decoder reads, and runs it from the advanced pc. -/
theorem stepRunsTheDecodedInstruction : Obligations.StepRunsTheDecodedInstruction := by
  intro s i hs hpc _ hdec
  have hi : decode s.fetchWord = i := by
    rw [s.decodeBytes_at_pc] at hdec
    injection hdec with hdec
    exact congrArg Prod.fst hdec
  obtain ⟨t, ht⟩ := step_answers_next s
  obtain ⟨u, hu, rfl⟩ := step_of_fetched hs hpc ht
  rw [hi, State.advance_eq, State.enterBurst_pc] at hu
  exact ⟨u, hu, ht⟩

/-- Settles O51: the start of a tick is one update of the state, and a burst in progress is left alone. -/
theorem tickStartDecaysTogglesAudio : Obligations.TickStartDecaysTogglesAudio := by
  refine fun s => ⟨fun hb => ?_, fun _ => State.enterBurst_of_some⟩
  have hdecay (b : Byte) : (decayed b).toNat = if b.toNat > 0 then b.toNat - 1 else 0 := by
    rw [decayed_toNat]
    split <;> omega
  have haudio (b : Byte) : decide (decayed b ≠ 0) = true ↔ (decayed b).toNat ≠ 0 := by
    rw [decide_eq_true_iff, decayed_ne_zero_iff, decayed_toNat]
  rw [State.enterBurst_of_none hb, State.beginTick_eq]
  exact ⟨hdecay s.dt, hdecay s.st, haudio s.st, rfl, rfl⟩

end Sys2Proof.Proofs
end

section
/-! SUPPORT. The burst over one step (46_step_and_tick.md R186, R189): how it ends, and what it has accumulated while it
goes on. -/

namespace Sys2Proof.Machine

variable {s t : State}

/-! ### The accounting -/

theorem burstAfter_eq (acc c : Nat) :
    burstAfter acc c = if acc + c ≥ 16666 ∨ c = 0 then none else some (acc + c) := rfl

theorem State.account_burst_of_cost {acc c : Nat} (hb : s.burst = some acc) (hc : s.cost = some c) :
    s.account.burst = burstAfter acc c := by
  simp only [State.account, hb, hc]

/-- A step is accounted for on top of what its burst has accumulated, 0 where the burst is new. -/
theorem step_account (hs : s.halt = none) (h : step s = .next t) :
    ∃ u : State, t = u.account ∧ u.burst = some (s.burst.getD 0) := by
  obtain ⟨u, rfl, ⟨-, rfl⟩ | ⟨-, he⟩⟩ := step_effect hs h
  · exact ⟨_, rfl, s.enterBurst_burst⟩
  · obtain ⟨-, -, -, hburst, -⟩ := he.keepsSurroundings
    exact ⟨u, rfl, hburst.trans s.enterBurst_burst⟩

theorem step_burst_of_cost {c : Nat} (hs : s.halt = none) (h : step s = .next t) (hc : t.cost = some c) :
    t.burst = burstAfter (s.burst.getD 0) c := by
  obtain ⟨u, rfl, hb⟩ := step_account hs h
  exact State.account_burst_of_cost hb hc

/-! ### A step that faults -/

/-- A step that sets the latch is its fault, accounted for. -/
theorem step_of_fault (hs : s.halt = none) (h : step s = .next t) (ht : t.halt ≠ none) :
    t = s.enterBurst.fetchFault.account ∨ ∃ cause, t = (s.enterBurst.advance.dataFault cause).account := by
  rcases step_cases h with ⟨hs', -⟩ | ⟨-, -, rfl⟩ | ⟨-, -, u, hu, rfl⟩
  · simp [hs] at hs'
  · exact .inl rfl
  · obtain ⟨hkept, -⟩ | ⟨cause, rfl⟩ := exec_costOrFault hu
    · exact absurd (hkept.trans (by simpa using hs)) ht
    · exact .inr ⟨cause, rfl⟩

/-- A fault ends its burst; the timers and the audio bit stand as the start of its tick left them (R189). -/
theorem step_fault_ends_burst (hs : s.halt = none) (h : step s = .next t) (ht : t.halt ≠ none) :
    t.burst = none ∧ t.dt = s.enterBurst.dt ∧ t.st = s.enterBurst.st ∧
      t.audioPlaying = s.enterBurst.audioPlaying := by
  obtain rfl | ⟨cause, rfl⟩ := step_of_fault hs h ht
  · exact ⟨State.account_burst_of_cost_none rfl, rfl, rfl, rfl⟩
  · exact ⟨State.account_burst_of_cost_none rfl, rfl, rfl, rfl⟩

/-! ### A step that goes on -/

/-- A burst that goes on has not halted, has accumulated more, and has budget left. -/
theorem step_burst_grows {acc : Nat} (hs : s.halt = none) (h : step s = .next t) (hb : t.burst = some acc) :
    t.halt = none ∧ s.burst.getD 0 < acc ∧ acc < 16666 := by
  have hhalt : t.halt = none := by
    by_contra ht
    simp [(step_fault_ends_burst hs h ht).1] at hb
  obtain ⟨-, c, hc⟩ | ⟨-, -, r, hr⟩ := step_cost_or_halts h
  · have hafter : burstAfter (s.burst.getD 0) c = some acc := (step_burst_of_cost hs h hc).symm.trans hb
    refine ⟨hhalt, ?_, burstAfter_lt hafter⟩
    rw [burstAfter_eq] at hafter
    split at hafter
    · cases hafter
    · injection hafter with hafter
      omega
  · simp [hhalt] at hr

/-! ### A halted machine (R189) -/

theorem tick_of_halted (hs : s.halt.isSome = true) : tick s = .next s := if_pos hs

theorem step_halted_eq (hs : s.halt.isSome = true) : step s = .next (s.report 0) :=
  (if_pos hs).trans (runInstruction_of_halted hs)

theorem core_run_of_halted (k : Nat) (hs : s.halt.isSome = true) :
    core.run k s = .next { s with cost := if k = 0 then s.cost else some 0 } := by
  induction k generalizing s with
  | zero => rfl
  | succ k ih =>
    have hreported := ih (s := s.report 0) hs
    rw [show (s.report 0).cost = some 0 from rfl, ite_self] at hreported
    exact (core_run_succ k (step_halted_eq hs)).trans hreported

end Sys2Proof.Machine

namespace Sys2Proof.Proofs

open Sys2Proof.Machine

/-- Settles O52: the accounting on top of what the burst has accumulated; a fault reports no cost. -/
theorem burstAccounting : Obligations.BurstAccounting := fun _ _ hs h =>
  ⟨fun _ hr => (step_fault_ends_burst hs h (Option.ne_none_iff_exists'.mpr ⟨_, hr⟩)).1,
    fun _ hc => step_burst_of_cost hs h hc⟩

/-- Settles O10: a halted machine by induction on the number of steps, a faulting step by what its fault leaves alone. -/
theorem haltedMachineIsFrozen : Obligations.HaltedMachineIsFrozen :=
  ⟨fun _ hs => ⟨tick_of_halted hs, fun k => ⟨_, core_run_of_halted k hs, rfl⟩⟩,
    fun _ _ hs h ht => step_fault_ends_burst hs h (Option.isSome_iff_ne_none.mp ht)⟩

end Sys2Proof.Proofs
end

section
/-! SUPPORT. The tick as one function against single steps (46_step_and_tick.md R186, R187): the steps of a burst, and
that they end within the budget. -/

namespace Sys2Proof.Machine

variable {s t : State}

/-- `n` steps from `s` answer `t`; the last of them leaves no burst in progress, and each before it goes on with the burst
and does not halt. -/
inductive BurstSteps : Nat → State → State → Prop
  | last {s t : State} (h : step s = .next t) (hb : t.burst = none) : BurstSteps 1 s t
  | more {n : Nat} {s u t : State} (h : step s = .next u) (hb : u.burst ≠ none) (hu : u.halt = none)
      (hrest : BurstSteps n u t) : BurstSteps (n + 1) s t

namespace BurstSteps

variable {n : Nat}

theorem one_le (h : BurstSteps n s t) : 1 ≤ n := by
  cases h with
  | last => exact le_rfl
  | more => exact Nat.le_add_left 1 _

theorem burst_none (h : BurstSteps n s t) : t.burst = none := by
  induction h with
  | last _ hb => exact hb
  | more _ _ _ _ ih => exact ih

theorem run (h : BurstSteps n s t) : core.run n s = .next t := by
  induction h with
  | last h _ => exact core_run_succ 0 h
  | more h _ _ _ ih => exact (core_run_succ _ h).trans ih

/-- No step before the last ends the burst or halts. -/
theorem goes_on_before (h : BurstSteps n s t) {m : Nat} {v : State} (hm : 1 ≤ m) (hmn : m < n)
    (hv : core.run m s = .next v) : v.burst ≠ none ∧ v.halt = none := by
  induction h generalizing m with
  | last => omega
  | more h hb hu _ ih =>
    obtain ⟨m, rfl⟩ := Nat.exists_eq_add_of_le' hm
    rw [core_run_succ m h] at hv
    cases m with
    | zero =>
      injection hv with hv
      exact hv ▸ ⟨hb, hu⟩
    | succ m => exact ih (Nat.le_add_left 1 m) (by omega) hv

end BurstSteps

/-- One turn of the burst loop is a step, after which it stops or goes on from inside the burst. -/
theorem burstLoop_succ {u : State} (fuel : Nat) (hs : s.halt = none) (h : step s = .next u) :
    burstLoop (fuel + 1) s.enterBurst = if u.burst = none then .next u else burstLoop fuel u.enterBurst := by
  rw [step_of_running hs] at h
  simp only [burstLoop, h]
  cases hb : u.burst with
  | none => rfl
  | some acc => rw [State.enterBurst_of_some hb]; rfl

/-- With as much fuel as the burst has budget left the loop is the steps of the burst, since each of them that does not
end it spends some. -/
theorem burstLoop_is_burstSteps (fuel : Nat) (hs : s.halt = none) (hlt : s.burst.getD 0 < 16666)
    (hfuel : 16666 ≤ s.burst.getD 0 + fuel) :
    ∃ n t, n ≤ fuel ∧ BurstSteps n s t ∧ burstLoop fuel s.enterBurst = .next t := by
  induction fuel generalizing s with
  | zero => omega
  | succ fuel ih =>
    obtain ⟨u, hu⟩ := step_answers_next s
    rw [burstLoop_succ fuel hs hu]
    cases hb : u.burst with
    | none => exact ⟨1, u, Nat.le_add_left 1 fuel, .last hu hb, rfl⟩
    | some acc =>
      obtain ⟨hhalt, hgrows, hacc⟩ := step_burst_grows hs hu hb
      have hgetD : u.burst.getD 0 = acc := by rw [hb]; rfl
      obtain ⟨n, t, hn, hsteps, hloop⟩ := ih hhalt (by omega) (by omega)
      exact ⟨n + 1, t, Nat.succ_le_succ hn, .more hu (by simp [hb]) hhalt hsteps, hloop⟩

theorem tick_of_running (hs : s.halt = none) (hb : s.burst = none) :
    tick s = burstLoop 16666 s.enterBurst := by
  rw [State.enterBurst_of_none hb, tick, hs]
  rfl

end Sys2Proof.Machine

namespace Sys2Proof.Proofs

open Sys2Proof.Machine

/-- Settles O56, by induction on the fuel of the loop: every step that does not end the burst spends at least 1. -/
theorem tickIsTheBurstOfSteps : Obligations.TickIsTheBurstOfSteps := by
  intro s hs hb
  obtain ⟨n, t, hn, hsteps, hloop⟩ := burstLoop_is_burstSteps (s := s) 16666 hs (by simp [hb]) (by simp [hb])
  exact ⟨n, t, hsteps.one_le, hn, (tick_of_running hs hb).trans hloop, hsteps.run, hsteps.burst_none,
    fun _ _ hm hmn hv => hsteps.goes_on_before hm hmn hv⟩

end Sys2Proof.Proofs
end

section
/-! SUPPORT. The cost of every outcome (46_step_and_tick.md R182, R183), once for all instructions: nothing, a cost of the
machine's cost function, or a fault. -/

namespace Sys2Proof.Machine

variable {i : Instr} {s t : State}

/-- The two zero-cost outcomes (R183): an unmatched word, and FX0A with no key released. -/
def CostsZero (i : Instr) (s : State) : Prop := (∃ w, i = .unmatched w) ∨ ∃ x, i = .waitKey x ∧ s.keysReleased = 0

/-- What an instruction run from `s` reports: 0, the cost of an outcome whose row in R182 is its figure, or nothing after
a fault. -/
inductive State.Reports (s : State) (i : Instr) (t : State) : Prop
  | nothing (hz : CostsZero i s) (hhalt : t.halt = s.halt) (hcost : t.cost = some 0)
  | cost (hz : ¬CostsZero i s) (j : Instr) (o : CostOutcome)
      (hfig : (givenCost s.config.costs j o).toNat = figureOf i s)
      (hhalt : t.halt = s.halt) (hcost : t.cost = some (s.costOf j o))
  | fault (hz : ¬CostsZero i s) (cause : FaultCause) (ht : t = s.dataFault cause)

/-! ### The ways an instruction ends -/

/-- An instruction charged after an effect that touches neither the latch nor the configuration. -/
theorem State.Reports.charge {e : State} {j : Instr} {o : CostOutcome} (hz : ¬CostsZero i s)
    (hfig : (givenCost s.config.costs j o).toNat = figureOf i s) (hhalt : e.halt = s.halt)
    (hcosts : e.costOf = s.costOf) : s.Reports i (e.charge j o) :=
  .cost hz j o hfig hhalt (by rw [State.charge_cost, hcosts])

/-- A checked transfer is charged for its effect, or faults. -/
theorem State.Reports.checked {e : State} {j : Instr} {o : CostOutcome} {cause : FaultCause} {count : Nat}
    (hz : ¬CostsZero i s) (hfig : (givenCost s.config.costs j o).toNat = figureOf i s) (hhalt : e.halt = s.halt)
    (hcosts : e.costOf = s.costOf) : s.Reports i (s.checked cause count (e.charge j o)) := by
  rcases s.checked_cases cause count (e.charge j o) with ⟨-, h⟩ | ⟨-, h⟩
  · exact .fault hz cause h
  · rw [h]; exact .charge hz hfig hhalt hcosts

/-- A skip costs 64 taken and 55 not taken. -/
theorem State.Reports.skipIf {j : Instr} {c : Bool} (hz : ¬CostsZero i s)
    (hgiven : ∀ o, givenCost s.config.costs j o = if o = .taken then .of 64 else .of 55)
    (hfig : figureOf i s = if c then 64 else 55) : s.Reports i (s.skipIf j c) := by
  refine .cost hz j _ ?_ (s.skipIf_halt j c) (s.skipIf_cost j c)
  rw [hgiven, hfig]
  cases c <;> rfl

/-! ### Keys -/

theorem State.keyDown_eq_and (s : State) (k : Byte) :
    s.keyDown k = (decide (k.toNat ≤ 15) && s.keysDown.getLsbD k.toNat) := by
  rw [Bool.eq_iff_iff, State.keyDown_iff, Bool.and_eq_true, decide_eq_true_iff]

/-- FX0A finds no key exactly when the port of released keys is empty (44_timers_keys.md R165). -/
theorem State.firstReleased_eq_none_iff (s : State) : s.firstReleased = none ↔ s.keysReleased = 0 := by
  constructor
  · intro h
    refine BitVec.eq_of_getLsbD_eq fun k hk => ?_
    simpa [State.keyReleased] using List.find?_eq_none.mp h k (List.mem_range.mpr hk)
  · intro h
    exact State.firstReleased_eq_none fun k => by simp [h]

theorem exec_waitKey_reports {x : Reg} (h : exec (.waitKey x) s = .next t) : s.Reports (.waitKey x) t := by
  have hz : CostsZero (.waitKey x) s ↔ s.firstReleased = none := by
    simp [CostsZero, State.firstReleased_eq_none_iff]
  cases hkey : s.firstReleased with
  | none =>
    cases (exec_waitKey_of_none x hkey).symm.trans h
    exact .nothing (hz.mpr hkey) rfl rfl
  | some k =>
    cases (exec_waitKey_of_some x hkey).symm.trans h
    have hne : s.keysReleased ≠ 0 := by
      rw [Ne, ← State.firstReleased_eq_none_iff, hkey]
      exact Option.some_ne_none k
    exact .cost (by simp [hz, hkey]) (.waitKey x) .done (if_neg hne).symm rfl rfl

/-! ### All instructions -/

theorem exec_reports (h : exec i s = .next t) : s.Reports i t := by
  cases i with
  | unmatched w => cases h; exact .nothing (.inl ⟨w, rfl⟩) rfl rfl
  | waitKey => exact exec_waitKey_reports h
  | ret =>
    cases h
    cases s.top with
    | some w => exact .charge (by simp [CostsZero]) rfl rfl rfl
    | none => exact .charge (by simp [CostsZero]) rfl rfl rfl
  | skipKey | skipNoKey =>
    cases h
    exact .skipIf (by simp [CostsZero]) (fun _ => rfl) (by rw [State.keyDown_eq_and]; rfl)
  | skipEqImm | skipNeImm | skipEqReg | skipNeReg =>
    cases h
    exact .skipIf (by simp [CostsZero]) (fun _ => rfl) rfl
  | store | load =>
    cases h
    exact .checked (by simp [CostsZero]) (Cost.toNat_of _ (by omega)) rfl rfl
  | draw | bcd =>
    cases h
    exact .checked (by simp [CostsZero]) rfl (by simp) (by simp)
  | _ => cases h; exact .charge (by simp [CostsZero]) rfl (by simp) (by simp)

theorem figureOf_of_costsZero (h : CostsZero i s) : figureOf i s = 0 := by
  obtain ⟨w, rfl⟩ | ⟨x, rfl, hkeys⟩ := h
  · rfl
  · exact if_pos hkeys

end Sys2Proof.Machine

namespace Sys2Proof.Proofs

open Sys2Proof.Machine

/-- Settles O49: what is charged is at least 1, and a fault reports nothing. -/
theorem onlyTwoOutcomesCostZero : Obligations.OnlyTwoOutcomesCostZero := by
  intro i s t _ h
  change _ ↔ CostsZero i s
  cases exec_reports h with
  | nothing hz _ hcost => exact iff_of_true hcost hz
  | cost hz j o _ _ hcost =>
    refine iff_of_false (fun hzero => ?_) hz
    have : s.costOf j o = 0 := Option.some.inj (hcost.symm.trans hzero)
    have := s.costOf_pos j o
    omega
  | fault hz cause ht => exact iff_of_false (by simp [ht]) hz

/-- Settles O50: the figure of the outcome's row, where the machine departs nowhere. -/
theorem costTableOfRule182 : Obligations.CostTableOfRule182 := by
  intro i s t hgiven hs h
  cases exec_reports h with
  | nothing hz hhalt hcost => rw [if_pos (hhalt.trans hs), figureOf_of_costsZero hz, hcost]
  | cost _ j o hfig hhalt hcost => rw [if_pos (hhalt.trans hs), hcost, State.costOf_given hgiven, hfig]
  | fault _ cause ht => simp [ht]

end Sys2Proof.Proofs
end

section
/-! SUPPORT. The one exception of one Step (60_exceptions.md R200, R201): where the range check of a transfer sets the
latch, and what the fault leaves. -/

namespace Sys2Proof.Machine

variable {i : Instr} {s t : State}

/-! ### The table of causes (R200) -/

/-- A transfer sets the latch exactly when its range check fails, here in the table's own words `p`. -/
theorem State.checked_halt {p : Prop} [Decidable p] {e : State} {cause : FaultCause} {count : Nat}
    (hp : 1 ≤ count ∧ 0xFFF < s.i.toNat + (count - 1) ↔ p) (he : e.halt = none) :
    (s.checked cause count e).halt = if p then some ⟨cause, max s.i.toNat 0x1000, s.pc - 2⟩ else none := by
  rw [← State.outOfRange_iff] at hp
  rcases s.checked_cases cause count e with ⟨hout, hc⟩ | ⟨hin, hc⟩
  · rw [hc, if_pos (hp.mp hout), State.dataFault_halt]
  · rw [hc, if_neg (fun h => by simp [hp.mpr h] at hin), he]

/-- An instruction sets a clear latch as the table of causes says, its address being the pc before the fetch advance. -/
theorem exec_halt (hs : s.halt = none) (h : exec i s = .next t) : t.halt = dataFaultOf i s.i (s.pc - 2) := by
  cases i with
  | draw | load | bcd | store => cases h; exact State.checked_halt (by omega) (by simpa using hs)
  | _ => exact (not_imp_comm.mp (exec_effect h).halt_writer (by simp [ChecksRange])).trans hs

/-! ### Precision (R201) -/

/-- What sets the latch is the fault of a data access and nothing else. -/
theorem State.Effect.eq_dataFault (he : s.Effect i t) (hne : t.halt ≠ s.halt) :
    ∃ cause, cause ≠ .fetch ∧ t = s.dataFault cause := by
  cases he with
  | fault cause _ hc => exact ⟨cause, hc, rfl⟩
  | _ => exact absurd (by simp) hne

/-! ### One Step of a running machine -/

/-- Step answers the fault of its fetch, or what the decoded instruction answers from the advanced pc
(46_step_and_tick.md R180). -/
theorem runInstruction_next_cases (hs : s.halt = none) (h : runInstruction s = .next t) :
    (s.pc.toNat + 1 > 0xFFF ∧ t = s.fetchFault) ∨
    (s.pc.toNat + 1 ≤ 0xFFF ∧ exec (decode s.fetchWord) s.advance = .next t) := by
  rcases runInstruction_cases hs with ⟨hf, hr⟩ | ⟨hf, u, hu, hr⟩
  · cases hr.symm.trans h
    exact .inl ⟨s.fetchOutOfRange_iff.mp hf, rfl⟩
  · cases hr.symm.trans h
    exact .inr ⟨s.fetchOutOfRange_eq_false_iff.mp hf, hu⟩

theorem State.advance_pc_sub_two (s : State) : s.advance.pc - 2 = s.pc := by
  rw [State.advance_pc, BitVec.add_sub_cancel]

/-- The latch after one Step: the fetch row of the table, else the data rows at the pc the step began with (R200). -/
theorem runInstruction_halt (hs : s.halt = none) (h : runInstruction s = .next t) :
    t.halt = if s.pc.toNat + 1 > 0xFFF then some ⟨.fetch, max s.pc.toNat 0x1000, s.pc⟩
      else dataFaultOf (decode s.fetchWord) s.i s.pc := by
  rcases runInstruction_next_cases hs h with ⟨hpc, rfl⟩ | ⟨hpc, hexec⟩
  · rw [if_pos hpc, State.fetchFault_halt]
  · rw [if_neg (by omega), exec_halt (by simpa using hs) hexec, State.advance_i, State.advance_pc_sub_two]

/-- A Step that sets the latch is its fetch fault, or the fault of a data access from the advanced pc. -/
theorem runInstruction_of_fault (hs : s.halt = none) (h : runInstruction s = .next t) (ht : t.halt ≠ none) :
    t = s.fetchFault ∨ ∃ cause, cause ≠ .fetch ∧ t = s.advance.dataFault cause := by
  rcases runInstruction_next_cases hs h with ⟨-, rfl⟩ | ⟨-, hexec⟩
  · exact .inl rfl
  · exact .inr ((exec_effect hexec).eq_dataFault (by simpa [hs] using ht))

end Sys2Proof.Machine

namespace Sys2Proof.Proofs

open Sys2Proof.Machine

/-- Settles O11: the latch after one Step is the table's, and a latch an instruction sets holds a precise record. -/
theorem onlyTabledAccessesFault : Obligations.OnlyTabledAccessesFault := by
  refine ⟨⟨rfl, rfl, rfl⟩, fun _ _ => runInstruction_halt, fun i s t r hs h hr => ?_⟩
  obtain ⟨-, hlo, hhi, -⟩ := (exec_effect h).preciseHalt hs r hr
  exact ⟨hlo, hhi⟩

/-- Settles O12, by the two faults a Step can take: of its fetch, from the pc it began with, and of a data access, from
the advanced pc. -/
theorem faultsArePrecise : Obligations.FaultsArePrecise := by
  intro s t r hs h hr
  obtain rfl | ⟨cause, hc, rfl⟩ := runInstruction_of_fault hs h (by simp [hr])
  · rw [State.fetchFault_halt] at hr
    cases hr
    exact ⟨rfl, rfl⟩
  · rw [State.dataFault_halt, State.advance_pc_sub_two] at hr
    cases hr
    rw [if_neg hc]
    refine ⟨?_, rfl⟩
    rw [State.dataFault, State.advance_pc_sub_two]
    rfl

end Sys2Proof.Proofs
end

section
/-! SUPPORT. The state after reset (70_reset_and_hazards.md R220): what its memory, registers, stack and grid hold, and
the invariant of a safe state it meets; no step leaves the halted state. -/

namespace Sys2Proof.Machine

/-! ### The parts of the state that hold many values -/

/-- Reset memory lists no byte, so every address reads zero. -/
theorem State.byteAt_reset (a : Nat) : State.reset.byteAt a = 0 := rfl

theorem State.reg_reset (r : Reg) : State.reset.reg r = 0 := Vector.getElem_replicate r.isLt

theorem State.getElem_reset_stack (k : Fin 16) : State.reset.stack[k] = 0 := Vector.getElem_replicate k.isLt

/-- The reset grid is the one 00E0 leaves. -/
theorem State.reset_grid : State.reset.grid = Grid.clear := rfl

/-! ### The invariant -/

/-- Reset memory and stack are empty, pc is at the program, and no burst and no fault is in progress. -/
theorem State.reset_inv : State.reset.Inv where
  memCanonical := Memory.nil_wf
  memExists := nofun
  pcReach := by decide
  stackReach k := by
    rw [State.getElem_reset_stack]
    decide
  burstBelowBudget := nofun
  haltEndsBurst := nofun
  haltAddr := nofun
  haltPc := nofun

/-! ### The halted machine -/

/-- The latch of a halted machine stands after a step (R189). -/
theorem step_halt_of_halted {s t : State} (hs : s.halt.isSome = true) (h : step s = .next t) : t.halt = s.halt := by
  rw [step_of_halted (Option.isSome_iff_ne_none.mp hs) h, State.report_halt]

end Sys2Proof.Machine

namespace Sys2Proof.Proofs

open Sys2Proof.Machine

/-- Settles O57: each part of the reset state, and the latch over a step of a halted machine. -/
theorem resetValues : Obligations.ResetValues := by
  refine ⟨State.byteAt_reset, State.reg_reset, rfl, rfl, State.getElem_reset_stack, rfl, rfl, rfl, fun x y => ?_, rfl,
    rfl, rfl, fun _ _ => step_halt_of_halted⟩
  rw [State.reset_grid, Grid.cell_clear]

/-- Settles O59: the invariant as it stands at reset. -/
theorem resetMeetsInvariant : Obligations.ResetMeetsInvariant := State.reset_inv

end Sys2Proof.Proofs
end
